-- ==== Sys2Proof/Word.lean ====
section
/-! DEFINITION. The word types of the block (spec/00_scope.md, section 6): W32, W64 and the 16-bit command word. -/

namespace Sys2Proof

/-- W32: every general, control and floating-point register (P_XLEN = 32; notes/assumptions/12.md). -/
abbrev Word := BitVec 32

/-- W64: MAC, the doubles, the operand bus A and the result bus Q. -/
abbrev DWord := BitVec 64

/-- The command word `cmd` of a request (R90). -/
abbrev CmdWord := BitVec 16

end Sys2Proof
end

