-- ==== Sys2Proof/Syntax.lean ====
section
/-! DEFINITION. The whole syntax: a raw request on the command port, and the operations it can ask for, one constructor
per row of spec/opcode_table.json. -/

namespace Sys2Proof

/-- One request on the command port (R90): the command word and the three operand buses. -/
structure Request where
  cmd : CmdWord
  a : DWord
  b : Word
  c : Word
  deriving DecidableEq, Repr

/-- One operation of the block with its operands. An index has exactly the legal range of its field (R93, R10), so an
index out of range cannot be written down (spec/93_implementation_defined.md U2). The data operands are what the
operation takes from the buses (R94; notes/assumptions/6.md). -/
inductive Instr where
  /-- GETR n, `0x100n` (R121). -/
  | getr (n : Fin 16)
  /-- SETR n, v, `0x110n` (R122). -/
  | setr (n : Fin 16) (v : Word)
  /-- GETRB n, `0x120n` (R123). -/
  | getrb (n : Fin 8)
  /-- SETRB n, v, `0x130n` (R124). -/
  | setrb (n : Fin 8) (v : Word)
  /-- GET.SR, `0x1400` (R125). -/
  | getSr
  /-- GET.SSR, `0x1401` (R127). -/
  | getSsr
  /-- GET.SPC, `0x1402` (R129). -/
  | getSpc
  /-- GET.SGR, `0x1403` (R131). -/
  | getSgr
  /-- GET.DBR, `0x1404` (R133). -/
  | getDbr
  /-- GET.VBR, `0x1405` (R135). -/
  | getVbr
  /-- GET.PR, `0x1406` (R137). -/
  | getPr
  /-- GET.FPUL, `0x1407` (R139). -/
  | getFpul
  /-- GET.PC, `0x1408` (R141). -/
  | getPc
  /-- GET.FPSCR, `0x1409` (R143). -/
  | getFpscr
  /-- GET.MACH, `0x140A` (R145). -/
  | getMach
  /-- GET.MACL, `0x140B` (R147). -/
  | getMacl
  /-- GET.EXPEVT, `0x140E` (R149). -/
  | getExpevt
  /-- SET.SR v, `0x1500` (R126). -/
  | setSr (v : Word)
  /-- SET.SSR v, `0x1501` (R128). -/
  | setSsr (v : Word)
  /-- SET.SPC v, `0x1502` (R130). -/
  | setSpc (v : Word)
  /-- SET.SGR v, `0x1503` (R132). -/
  | setSgr (v : Word)
  /-- SET.DBR v, `0x1504` (R134). -/
  | setDbr (v : Word)
  /-- SET.VBR v, `0x1505` (R136). -/
  | setVbr (v : Word)
  /-- SET.PR v, `0x1506` (R138). -/
  | setPr (v : Word)
  /-- SET.FPUL v, `0x1507` (R140). -/
  | setFpul (v : Word)
  /-- SET.PC v, `0x1508` (R142). -/
  | setPc (v : Word)
  /-- SET.FPSCR v, `0x1509` (R144). -/
  | setFpscr (v : Word)
  /-- SET.MACH v, `0x150A` (R146). -/
  | setMach (v : Word)
  /-- SET.MACL v, `0x150B` (R148). -/
  | setMacl (v : Word)
  /-- GETMAC, `0x1600` (R150). -/
  | getmac
  /-- SETMAC v, `0x1700` (R151). -/
  | setmac (v : DWord)
  /-- DBG.PEEK, identifiers from 0x00: `r[n]` (R97, R152). -/
  | dbgPeekR (n : Fin 16)
  /-- DBG.PEEK, identifiers from 0x10: `r_bank[n]` (R97, R152). -/
  | dbgPeekRBank (n : Fin 8)
  /-- DBG.PEEK, identifiers from 0x20: SR, SSR, SPC, SGR, DBR, VBR, PR, FPUL (R97, R152). -/
  | dbgPeekScalarLo (id : Fin 8)
  /-- DBG.PEEK, identifiers from 0x28: PC, FPSCR, MACH, MACL (R97, R152). -/
  | dbgPeekScalarHi (id : Fin 4)
  /-- DBG.PEEK, identifiers from 0x2C: `old_sr`, `old_fpscr` (R97, R152). -/
  | dbgPeekShadow (id : Fin 2)
  /-- DBG.PEEK, identifiers from 0x2E: EXPEVT (R97, R152). -/
  | dbgPeekExpevt
  /-- DBG.PEEK, identifiers from 0x40: `fr[n]` (R97, R152). -/
  | dbgPeekFr (n : Fin 16)
  /-- DBG.PEEK, identifiers from 0x50: `xf[n]` (R97, R152). -/
  | dbgPeekXf (n : Fin 16)
  /-- DBG.POKE, identifiers from 0x00: `r[n]` (R97, R153). -/
  | dbgPokeR (n : Fin 16) (v : Word)
  /-- DBG.POKE, identifiers from 0x10: `r_bank[n]` (R97, R153). -/
  | dbgPokeRBank (n : Fin 8) (v : Word)
  /-- DBG.POKE, identifiers from 0x20: SR, SSR, SPC, SGR, DBR, VBR, PR, FPUL (R97, R153). -/
  | dbgPokeScalarLo (id : Fin 8) (v : Word)
  /-- DBG.POKE, identifiers from 0x28: PC, FPSCR, MACH, MACL (R97, R153). -/
  | dbgPokeScalarHi (id : Fin 4) (v : Word)
  /-- DBG.POKE, identifiers from 0x40: `fr[n]` (R97, R153). -/
  | dbgPokeFr (n : Fin 16) (v : Word)
  /-- DBG.POKE, identifiers from 0x50: `xf[n]` (R97, R153). -/
  | dbgPokeXf (n : Fin 16) (v : Word)
  /-- GETFR n, `0x200n` (R161). -/
  | getfr (n : Fin 16)
  /-- SETFR n, v, `0x210n` (R162). -/
  | setfr (n : Fin 16) (v : Word)
  /-- GETXF n, `0x220n` (R163). -/
  | getxf (n : Fin 16)
  /-- SETXF n, v, `0x230n` (R164). -/
  | setxf (n : Fin 16) (v : Word)
  /-- GETDR n, `0x240n` (R165). -/
  | getdr (n : Fin 8)
  /-- SETDR n, v, `0x250n` (R166). -/
  | setdr (n : Fin 8) (v : DWord)
  /-- GETXD n, `0x260n` (R167). -/
  | getxd (n : Fin 8)
  /-- SETXD n, v, `0x270n` (R168). -/
  | setxd (n : Fin 8) (v : DWord)
  /-- FIXNAN v, `0x2800` (R169). -/
  | fixnan (v : Word)
  /-- FIXNAN64 v, `0x2900` (R170). -/
  | fixnan64 (v : DWord)
  /-- UPDSR, `0x3000` (R181). -/
  | updsr
  /-- UPDFPSCR, `0x3100` (R183). -/
  | updfpscr
  /-- SETFSR, `0x3200` (R185). -/
  | setfsr
  /-- DOEXC pc, evt, vec, `0x4000` (R196). -/
  | doexc (pc evt vec : Word)
  /-- RAISEFPUDIS, `0x4100` (R199). -/
  | raisefpudis
  /-- ADJSLOT epc, evt, vec, `0x4200` (R201). -/
  | adjslot (epc evt vec : Word)
  deriving DecidableEq, Repr

end Sys2Proof
end

