-- ==== Sys2Proof/Machine/Bits.lean ====
section
/-! DEFINITION. Slices, concatenation and zero extension (spec/00_scope.md, section 6), and the fields of a request. -/

namespace Sys2Proof

/-- The single bit `v[i]`. -/
def bit (v : Word) (i : Fin 32) : Bool := v.getLsbD i.val

/-- `zext_64(v)`: how a 32-bit result stands on the bus Q (R91). -/
def zext64 (v : Word) : DWord := v.setWidth 64

/-- `v[31:0]`. -/
def loWord (v : DWord) : Word := v.extractLsb' 0 32

/-- `v[63:32]`. -/
def hiWord (v : DWord) : Word := v.extractLsb' 32 32

/-- `hi : lo` (section 6): the first in the high bits. -/
def joinWords (hi lo : Word) : DWord := hi ++ lo

/-- The operation code `cmd[15:8]` (R90). -/
def Request.op (r : Request) : Nat := r.cmd.toNat / 256

/-- The selector `cmd[7:0]` (R90). -/
def Request.sel (r : Request) : Nat := r.cmd.toNat % 256

end Sys2Proof
end

