-- ==== Sys2Proof/WellFormed.lean ====
section
/-! DEFINITION. Which requests are legal, written format by format from R92, R93, R96, R97 and R102, without the opcode
table and without the decoder.

An `Instr` needs no check of its own: its index fields have exactly the legal width (R93, U2), so every term of that
type is an operation of the block. What can be ill formed is the raw command word. -/

namespace Sys2Proof

/-- The formats of R92; ID and DBG are split by direction, since R96 and R97 mark reading and writing apart. -/
inductive Format where
  | z
  | n4
  | n3
  | idGet
  | idSet
  | dbgPeek
  | dbgPoke
  deriving DecidableEq, Repr

/-- The format of an operation code, or none for an unassigned one (R92, R101, R102). -/
def formatOf (op : Nat) : Option Format :=
  match op with
  | 0x10 | 0x11 | 0x20 | 0x21 | 0x22 | 0x23 => some .n4
  | 0x12 | 0x13 | 0x24 | 0x25 | 0x26 | 0x27 => some .n3
  | 0x14 => some .idGet
  | 0x15 => some .idSet
  | 0x16 | 0x17 | 0x28 | 0x29 | 0x30 | 0x31 | 0x32 | 0x40 | 0x41 | 0x42 => some .z
  | 0x18 => some .dbgPeek
  | 0x19 => some .dbgPoke
  | _ => none

/-- Whether `sel` is legal in a format (R102 with the tables of R96 and R97). -/
def Format.allows (f : Format) (sel : Nat) : Bool :=
  match f with
  | .z => sel == 0
  | .n4 => sel < 0x10
  | .n3 => sel < 0x08
  | .idGet => sel ≤ 0x0B || sel == 0x0E
  | .idSet => sel ≤ 0x0B
  | .dbgPeek => sel ≤ 0x17 || (0x20 ≤ sel && sel ≤ 0x2E) || (0x40 ≤ sel && sel ≤ 0x5F)
  | .dbgPoke => sel ≤ 0x17 || (0x20 ≤ sel && sel ≤ 0x2B) || (0x40 ≤ sel && sel ≤ 0x5F)

/-- A request is well formed when its command word is not reserved (R102). The operand buses carry any value (R90). -/
def Request.wf (r : Request) : Bool :=
  match formatOf r.op with
  | some f => f.allows r.sel
  | none => false

end Sys2Proof
end

