-- ==== Sys2Proof/Decode.lean ====
section
/-! DEFINITION. The decoder, total on any request, and after it the encoder, from the same tables (spec/30_encoding.md).

A reserved command word decodes to none; what the block then does (`fatal(ILLEGAL_CMD)`, R104) is in Machine/Port.lean. -/

namespace Sys2Proof

/-- The index of format N4: `sel[7:4]` must be 0 (R93). -/
def indexN4 (sel : Nat) : Option (Fin 16) := if h : sel < 16 then some ⟨sel, h⟩ else none

/-- The index of format N3: `sel[7:3]` must be 0 (R93). -/
def indexN3 (sel : Nat) : Option (Fin 8) := if h : sel < 8 then some ⟨sel, h⟩ else none

/-- Format Z: `sel` must be 0 (R92). -/
def noSelector (sel : Nat) (i : Instr) : Option Instr := if sel = 0 then some i else none

/-- The index of an identifier within a block of `size` identifiers that begins at `base` (R97). -/
def indexFrom (base size sel : Nat) : Option (Fin size) :=
  if h : base ≤ sel ∧ sel - base < size then some ⟨sel - base, h.2⟩ else none

/-- GET.x by scalar identifier (R96, reading). -/
def decodeGet (sel : Nat) : Option Instr :=
  match sel with
  | 0x00 => some .getSr
  | 0x01 => some .getSsr
  | 0x02 => some .getSpc
  | 0x03 => some .getSgr
  | 0x04 => some .getDbr
  | 0x05 => some .getVbr
  | 0x06 => some .getPr
  | 0x07 => some .getFpul
  | 0x08 => some .getPc
  | 0x09 => some .getFpscr
  | 0x0A => some .getMach
  | 0x0B => some .getMacl
  | 0x0E => some .getExpevt
  | _ => none

/-- SET.x by scalar identifier (R96, writing). -/
def decodeSet (sel : Nat) (v : Word) : Option Instr :=
  match sel with
  | 0x00 => some (.setSr v)
  | 0x01 => some (.setSsr v)
  | 0x02 => some (.setSpc v)
  | 0x03 => some (.setSgr v)
  | 0x04 => some (.setDbr v)
  | 0x05 => some (.setVbr v)
  | 0x06 => some (.setPr v)
  | 0x07 => some (.setFpul v)
  | 0x08 => some (.setPc v)
  | 0x09 => some (.setFpscr v)
  | 0x0A => some (.setMach v)
  | 0x0B => some (.setMacl v)
  | _ => none

/-- DBG.PEEK by debug identifier (R97, PEEK): the eight rows of the table, in its order. -/
def decodePeek (sel : Nat) : Option Instr :=
  (indexFrom 0x00 16 sel).map .dbgPeekR <|>
  (indexFrom 0x10 8 sel).map .dbgPeekRBank <|>
  (indexFrom 0x20 8 sel).map .dbgPeekScalarLo <|>
  (indexFrom 0x28 4 sel).map .dbgPeekScalarHi <|>
  (indexFrom 0x2C 2 sel).map .dbgPeekShadow <|>
  (if sel = 0x2E then some .dbgPeekExpevt else none) <|>
  (indexFrom 0x40 16 sel).map .dbgPeekFr <|>
  (indexFrom 0x50 16 sel).map .dbgPeekXf

/-- DBG.POKE by debug identifier (R97, POKE): the six rows of the table, in its order. -/
def decodePoke (sel : Nat) (v : Word) : Option Instr :=
  (indexFrom 0x00 16 sel).map (.dbgPokeR · v) <|>
  (indexFrom 0x10 8 sel).map (.dbgPokeRBank · v) <|>
  (indexFrom 0x20 8 sel).map (.dbgPokeScalarLo · v) <|>
  (indexFrom 0x28 4 sel).map (.dbgPokeScalarHi · v) <|>
  (indexFrom 0x40 16 sel).map (.dbgPokeFr · v) <|>
  (indexFrom 0x50 16 sel).map (.dbgPokeXf · v)

/-- Decoding is by `op` first, then by `sel` (R99). A 32-bit data operand is `A[31:0]`, a 64-bit one all of A, the
three operands of DOEXC and ADJSLOT are `A[31:0]`, B, C (R94); every other bus bit is ignored (R90). -/
def decode (r : Request) : Option Instr :=
  match r.op with
  | 0x10 => (indexN4 r.sel).map .getr
  | 0x11 => (indexN4 r.sel).map (.setr · (loWord r.a))
  | 0x12 => (indexN3 r.sel).map .getrb
  | 0x13 => (indexN3 r.sel).map (.setrb · (loWord r.a))
  | 0x14 => decodeGet r.sel
  | 0x15 => decodeSet r.sel (loWord r.a)
  | 0x16 => noSelector r.sel .getmac
  | 0x17 => noSelector r.sel (.setmac r.a)
  | 0x18 => decodePeek r.sel
  | 0x19 => decodePoke r.sel (loWord r.a)
  | 0x20 => (indexN4 r.sel).map .getfr
  | 0x21 => (indexN4 r.sel).map (.setfr · (loWord r.a))
  | 0x22 => (indexN4 r.sel).map .getxf
  | 0x23 => (indexN4 r.sel).map (.setxf · (loWord r.a))
  | 0x24 => (indexN3 r.sel).map .getdr
  | 0x25 => (indexN3 r.sel).map (.setdr · r.a)
  | 0x26 => (indexN3 r.sel).map .getxd
  | 0x27 => (indexN3 r.sel).map (.setxd · r.a)
  | 0x28 => noSelector r.sel (.fixnan (loWord r.a))
  | 0x29 => noSelector r.sel (.fixnan64 r.a)
  | 0x30 => noSelector r.sel .updsr
  | 0x31 => noSelector r.sel .updfpscr
  | 0x32 => noSelector r.sel .setfsr
  | 0x40 => noSelector r.sel (.doexc (loWord r.a) r.b r.c)
  | 0x41 => noSelector r.sel .raisefpudis
  | 0x42 => noSelector r.sel (.adjslot (loWord r.a) r.b r.c)
  | _ => none

/-- A request as one number, the command word in its low 16 bits, then A, B, C (the order of the buses above bit 15 is
the model's: DESIGN CHOICE, notes/assumptions/6.md). -/
def Request.ofBits (w : Nat) : Request where
  cmd := BitVec.ofNat 16 w
  a := BitVec.ofNat 64 (w / 2 ^ 16)
  b := BitVec.ofNat 32 (w / 2 ^ 80)
  c := BitVec.ofNat 32 (w / 2 ^ 112)

/-- What the decoder reads from a word numbered as spec/opcode_table.json numbers it: bit 0 is bit 0 of `cmd`, and
every bit above `nbits` is 0 (the operand buses are zero for a row of 16 bits). -/
def decodeTableWord (nbits w : Nat) : Option Instr := decode (Request.ofBits (w % 2 ^ nbits))

/-! ## The encoder -/

/-- A command word from its operation code and selector (R90). -/
def cmdOf (op sel : Nat) : CmdWord := BitVec.ofNat 16 (op * 256 + sel)

/-- A request that drives no operand bus. -/
def bare (op sel : Nat) : Request := ⟨cmdOf op sel, 0, 0, 0⟩

/-- A request with a 32-bit data operand on `A[31:0]` (R94). -/
def withWord (op sel : Nat) (v : Word) : Request := ⟨cmdOf op sel, zext64 v, 0, 0⟩

/-- A request with a 64-bit data operand on A (R94). -/
def withDWord (op sel : Nat) (v : DWord) : Request := ⟨cmdOf op sel, v, 0, 0⟩

/-- A request that carries a ThrownException on A, B, C (R98). -/
def withTriple (op : Nat) (epc evt vec : Word) : Request := ⟨cmdOf op 0, zext64 epc, evt, vec⟩

/-- The request of an operation, with zeros on every bus bit it does not use (R101). -/
def encode : Instr → Request
  | .getr n => bare 0x10 n.val
  | .setr n v => withWord 0x11 n.val v
  | .getrb n => bare 0x12 n.val
  | .setrb n v => withWord 0x13 n.val v
  | .getSr => bare 0x14 0x00
  | .getSsr => bare 0x14 0x01
  | .getSpc => bare 0x14 0x02
  | .getSgr => bare 0x14 0x03
  | .getDbr => bare 0x14 0x04
  | .getVbr => bare 0x14 0x05
  | .getPr => bare 0x14 0x06
  | .getFpul => bare 0x14 0x07
  | .getPc => bare 0x14 0x08
  | .getFpscr => bare 0x14 0x09
  | .getMach => bare 0x14 0x0A
  | .getMacl => bare 0x14 0x0B
  | .getExpevt => bare 0x14 0x0E
  | .setSr v => withWord 0x15 0x00 v
  | .setSsr v => withWord 0x15 0x01 v
  | .setSpc v => withWord 0x15 0x02 v
  | .setSgr v => withWord 0x15 0x03 v
  | .setDbr v => withWord 0x15 0x04 v
  | .setVbr v => withWord 0x15 0x05 v
  | .setPr v => withWord 0x15 0x06 v
  | .setFpul v => withWord 0x15 0x07 v
  | .setPc v => withWord 0x15 0x08 v
  | .setFpscr v => withWord 0x15 0x09 v
  | .setMach v => withWord 0x15 0x0A v
  | .setMacl v => withWord 0x15 0x0B v
  | .getmac => bare 0x16 0x00
  | .setmac v => withDWord 0x17 0x00 v
  | .dbgPeekR n => bare 0x18 n.val
  | .dbgPeekRBank n => bare 0x18 (0x10 + n.val)
  | .dbgPeekScalarLo id => bare 0x18 (0x20 + id.val)
  | .dbgPeekScalarHi id => bare 0x18 (0x28 + id.val)
  | .dbgPeekShadow id => bare 0x18 (0x2C + id.val)
  | .dbgPeekExpevt => bare 0x18 0x2E
  | .dbgPeekFr n => bare 0x18 (0x40 + n.val)
  | .dbgPeekXf n => bare 0x18 (0x50 + n.val)
  | .dbgPokeR n v => withWord 0x19 n.val v
  | .dbgPokeRBank n v => withWord 0x19 (0x10 + n.val) v
  | .dbgPokeScalarLo id v => withWord 0x19 (0x20 + id.val) v
  | .dbgPokeScalarHi id v => withWord 0x19 (0x28 + id.val) v
  | .dbgPokeFr n v => withWord 0x19 (0x40 + n.val) v
  | .dbgPokeXf n v => withWord 0x19 (0x50 + n.val) v
  | .getfr n => bare 0x20 n.val
  | .setfr n v => withWord 0x21 n.val v
  | .getxf n => bare 0x22 n.val
  | .setxf n v => withWord 0x23 n.val v
  | .getdr n => bare 0x24 n.val
  | .setdr n v => withDWord 0x25 n.val v
  | .getxd n => bare 0x26 n.val
  | .setxd n v => withDWord 0x27 n.val v
  | .fixnan v => withWord 0x28 0x00 v
  | .fixnan64 v => withDWord 0x29 0x00 v
  | .updsr => bare 0x30 0x00
  | .updfpscr => bare 0x31 0x00
  | .setfsr => bare 0x32 0x00
  | .doexc pc evt vec => withTriple 0x40 pc evt vec
  | .raisefpudis => bare 0x41 0x00
  | .adjslot epc evt vec => withTriple 0x42 epc evt vec

/-! ## The opcode table as data -/

/-- One row of spec/opcode_table.json: `cmd & mask = pattern` (R99). -/
structure Row where
  mnemonic : String
  pattern : CmdWord
  mask : CmdWord
  deriving DecidableEq, Repr

/-- Whether a command word matches a row (R99). -/
def Row.hits (row : Row) (cmd : CmdWord) : Bool := cmd &&& row.mask == row.pattern

/-- The rows of R121 to R124. -/
def rowsGeneral : List Row := [
  ⟨"GETR", 0x1000, 0xFFF0⟩,
  ⟨"SETR", 0x1100, 0xFFF0⟩,
  ⟨"GETRB", 0x1200, 0xFFF8⟩,
  ⟨"SETRB", 0x1300, 0xFFF8⟩]

/-- The rows of GET.x. -/
def rowsGet : List Row := [
  ⟨"GET.SR", 0x1400, 0xFFFF⟩,
  ⟨"GET.SSR", 0x1401, 0xFFFF⟩,
  ⟨"GET.SPC", 0x1402, 0xFFFF⟩,
  ⟨"GET.SGR", 0x1403, 0xFFFF⟩,
  ⟨"GET.DBR", 0x1404, 0xFFFF⟩,
  ⟨"GET.VBR", 0x1405, 0xFFFF⟩,
  ⟨"GET.PR", 0x1406, 0xFFFF⟩,
  ⟨"GET.FPUL", 0x1407, 0xFFFF⟩,
  ⟨"GET.PC", 0x1408, 0xFFFF⟩,
  ⟨"GET.FPSCR", 0x1409, 0xFFFF⟩,
  ⟨"GET.MACH", 0x140A, 0xFFFF⟩,
  ⟨"GET.MACL", 0x140B, 0xFFFF⟩,
  ⟨"GET.EXPEVT", 0x140E, 0xFFFF⟩]

/-- The rows of SET.x. -/
def rowsSet : List Row := [
  ⟨"SET.SR", 0x1500, 0xFFFF⟩,
  ⟨"SET.SSR", 0x1501, 0xFFFF⟩,
  ⟨"SET.SPC", 0x1502, 0xFFFF⟩,
  ⟨"SET.SGR", 0x1503, 0xFFFF⟩,
  ⟨"SET.DBR", 0x1504, 0xFFFF⟩,
  ⟨"SET.VBR", 0x1505, 0xFFFF⟩,
  ⟨"SET.PR", 0x1506, 0xFFFF⟩,
  ⟨"SET.FPUL", 0x1507, 0xFFFF⟩,
  ⟨"SET.PC", 0x1508, 0xFFFF⟩,
  ⟨"SET.FPSCR", 0x1509, 0xFFFF⟩,
  ⟨"SET.MACH", 0x150A, 0xFFFF⟩,
  ⟨"SET.MACL", 0x150B, 0xFFFF⟩]

/-- The rows of GETMAC, SETMAC and the debug port. -/
def rowsMacDebug : List Row := [
  ⟨"GETMAC", 0x1600, 0xFFFF⟩,
  ⟨"SETMAC", 0x1700, 0xFFFF⟩,
  ⟨"DBG.PEEK", 0x1800, 0xFFF0⟩,
  ⟨"DBG.PEEK", 0x1810, 0xFFF8⟩,
  ⟨"DBG.PEEK", 0x1820, 0xFFF8⟩,
  ⟨"DBG.PEEK", 0x1828, 0xFFFC⟩,
  ⟨"DBG.PEEK", 0x182C, 0xFFFE⟩,
  ⟨"DBG.PEEK", 0x182E, 0xFFFF⟩,
  ⟨"DBG.PEEK", 0x1840, 0xFFF0⟩,
  ⟨"DBG.PEEK", 0x1850, 0xFFF0⟩,
  ⟨"DBG.POKE", 0x1900, 0xFFF0⟩,
  ⟨"DBG.POKE", 0x1910, 0xFFF8⟩,
  ⟨"DBG.POKE", 0x1920, 0xFFF8⟩,
  ⟨"DBG.POKE", 0x1928, 0xFFFC⟩,
  ⟨"DBG.POKE", 0x1940, 0xFFF0⟩,
  ⟨"DBG.POKE", 0x1950, 0xFFF0⟩]

/-- The rows of the Floating-Point View Model. -/
def rowsFp : List Row := [
  ⟨"GETFR", 0x2000, 0xFFF0⟩,
  ⟨"SETFR", 0x2100, 0xFFF0⟩,
  ⟨"GETXF", 0x2200, 0xFFF0⟩,
  ⟨"SETXF", 0x2300, 0xFFF0⟩,
  ⟨"GETDR", 0x2400, 0xFFF8⟩,
  ⟨"SETDR", 0x2500, 0xFFF8⟩,
  ⟨"GETXD", 0x2600, 0xFFF8⟩,
  ⟨"SETXD", 0x2700, 0xFFF8⟩,
  ⟨"FIXNAN", 0x2800, 0xFFFF⟩,
  ⟨"FIXNAN64", 0x2900, 0xFFFF⟩]

/-- The rows of Status/Control Flags and the Exception Controller. -/
def rowsControl : List Row := [
  ⟨"UPDSR", 0x3000, 0xFFFF⟩,
  ⟨"UPDFPSCR", 0x3100, 0xFFFF⟩,
  ⟨"SETFSR", 0x3200, 0xFFFF⟩,
  ⟨"DOEXC", 0x4000, 0xFFFF⟩,
  ⟨"RAISEFPUDIS", 0x4100, 0xFFFF⟩,
  ⟨"ADJSLOT", 0x4200, 0xFFFF⟩]

/-- The 61 rows of spec/opcode_table.json, in its order. -/
def opcodeTable : List Row := rowsGeneral ++ rowsGet ++ rowsSet ++ rowsMacDebug ++ rowsFp ++ rowsControl

/-- The row an operation belongs to. -/
def rowOf : Instr → Row
  | .getr _ => ⟨"GETR", 0x1000, 0xFFF0⟩
  | .setr _ _ => ⟨"SETR", 0x1100, 0xFFF0⟩
  | .getrb _ => ⟨"GETRB", 0x1200, 0xFFF8⟩
  | .setrb _ _ => ⟨"SETRB", 0x1300, 0xFFF8⟩
  | .getSr => ⟨"GET.SR", 0x1400, 0xFFFF⟩
  | .getSsr => ⟨"GET.SSR", 0x1401, 0xFFFF⟩
  | .getSpc => ⟨"GET.SPC", 0x1402, 0xFFFF⟩
  | .getSgr => ⟨"GET.SGR", 0x1403, 0xFFFF⟩
  | .getDbr => ⟨"GET.DBR", 0x1404, 0xFFFF⟩
  | .getVbr => ⟨"GET.VBR", 0x1405, 0xFFFF⟩
  | .getPr => ⟨"GET.PR", 0x1406, 0xFFFF⟩
  | .getFpul => ⟨"GET.FPUL", 0x1407, 0xFFFF⟩
  | .getPc => ⟨"GET.PC", 0x1408, 0xFFFF⟩
  | .getFpscr => ⟨"GET.FPSCR", 0x1409, 0xFFFF⟩
  | .getMach => ⟨"GET.MACH", 0x140A, 0xFFFF⟩
  | .getMacl => ⟨"GET.MACL", 0x140B, 0xFFFF⟩
  | .getExpevt => ⟨"GET.EXPEVT", 0x140E, 0xFFFF⟩
  | .setSr _ => ⟨"SET.SR", 0x1500, 0xFFFF⟩
  | .setSsr _ => ⟨"SET.SSR", 0x1501, 0xFFFF⟩
  | .setSpc _ => ⟨"SET.SPC", 0x1502, 0xFFFF⟩
  | .setSgr _ => ⟨"SET.SGR", 0x1503, 0xFFFF⟩
  | .setDbr _ => ⟨"SET.DBR", 0x1504, 0xFFFF⟩
  | .setVbr _ => ⟨"SET.VBR", 0x1505, 0xFFFF⟩
  | .setPr _ => ⟨"SET.PR", 0x1506, 0xFFFF⟩
  | .setFpul _ => ⟨"SET.FPUL", 0x1507, 0xFFFF⟩
  | .setPc _ => ⟨"SET.PC", 0x1508, 0xFFFF⟩
  | .setFpscr _ => ⟨"SET.FPSCR", 0x1509, 0xFFFF⟩
  | .setMach _ => ⟨"SET.MACH", 0x150A, 0xFFFF⟩
  | .setMacl _ => ⟨"SET.MACL", 0x150B, 0xFFFF⟩
  | .getmac => ⟨"GETMAC", 0x1600, 0xFFFF⟩
  | .setmac _ => ⟨"SETMAC", 0x1700, 0xFFFF⟩
  | .dbgPeekR _ => ⟨"DBG.PEEK", 0x1800, 0xFFF0⟩
  | .dbgPeekRBank _ => ⟨"DBG.PEEK", 0x1810, 0xFFF8⟩
  | .dbgPeekScalarLo _ => ⟨"DBG.PEEK", 0x1820, 0xFFF8⟩
  | .dbgPeekScalarHi _ => ⟨"DBG.PEEK", 0x1828, 0xFFFC⟩
  | .dbgPeekShadow _ => ⟨"DBG.PEEK", 0x182C, 0xFFFE⟩
  | .dbgPeekExpevt => ⟨"DBG.PEEK", 0x182E, 0xFFFF⟩
  | .dbgPeekFr _ => ⟨"DBG.PEEK", 0x1840, 0xFFF0⟩
  | .dbgPeekXf _ => ⟨"DBG.PEEK", 0x1850, 0xFFF0⟩
  | .dbgPokeR _ _ => ⟨"DBG.POKE", 0x1900, 0xFFF0⟩
  | .dbgPokeRBank _ _ => ⟨"DBG.POKE", 0x1910, 0xFFF8⟩
  | .dbgPokeScalarLo _ _ => ⟨"DBG.POKE", 0x1920, 0xFFF8⟩
  | .dbgPokeScalarHi _ _ => ⟨"DBG.POKE", 0x1928, 0xFFFC⟩
  | .dbgPokeFr _ _ => ⟨"DBG.POKE", 0x1940, 0xFFF0⟩
  | .dbgPokeXf _ _ => ⟨"DBG.POKE", 0x1950, 0xFFF0⟩
  | .getfr _ => ⟨"GETFR", 0x2000, 0xFFF0⟩
  | .setfr _ _ => ⟨"SETFR", 0x2100, 0xFFF0⟩
  | .getxf _ => ⟨"GETXF", 0x2200, 0xFFF0⟩
  | .setxf _ _ => ⟨"SETXF", 0x2300, 0xFFF0⟩
  | .getdr _ => ⟨"GETDR", 0x2400, 0xFFF8⟩
  | .setdr _ _ => ⟨"SETDR", 0x2500, 0xFFF8⟩
  | .getxd _ => ⟨"GETXD", 0x2600, 0xFFF8⟩
  | .setxd _ _ => ⟨"SETXD", 0x2700, 0xFFF8⟩
  | .fixnan _ => ⟨"FIXNAN", 0x2800, 0xFFFF⟩
  | .fixnan64 _ => ⟨"FIXNAN64", 0x2900, 0xFFFF⟩
  | .updsr => ⟨"UPDSR", 0x3000, 0xFFFF⟩
  | .updfpscr => ⟨"UPDFPSCR", 0x3100, 0xFFFF⟩
  | .setfsr => ⟨"SETFSR", 0x3200, 0xFFFF⟩
  | .doexc _ _ _ => ⟨"DOEXC", 0x4000, 0xFFFF⟩
  | .raisefpudis => ⟨"RAISEFPUDIS", 0x4100, 0xFFFF⟩
  | .adjslot _ _ _ => ⟨"ADJSLOT", 0x4200, 0xFFFF⟩

end Sys2Proof
end

