-- ==== Sys2Proof/Config.lean ====
section
/-! DEFINITION. What an implementation fixes (the parameters of spec/00_scope.md R5) and the values the spec leaves free.

The parameters are ordinary data, held in State, so that a statement over all states is a statement over all
parameters (notes/assumptions/1.md). The free values are constants with no body: nothing can prove which value one has. -/

namespace Sys2Proof

/-- The MMU-support input `FullMMU` as it stands when the model starts: OPEN in the spec (R4, R5, D21a).
DESIGN CHOICE (safe): an uninterpreted constant, notes/assumptions/2.md. -/
opaque Config.fullMMU : Bool

/-- What an unwritten storage word holds: the value of cell `cell` at the `draw`-th reset (R62, D27: "a free draw at
each reset"; "it must not pick zero"). DESIGN CHOICE (unsafe): notes/assumptions/4.md. -/
opaque Config.freeWord (draw : Nat) (cell : Nat) : Word

/-- The real processor's transform of a single-precision NaN pattern, which the source does not give (R169, D13). -/
opaque Config.fixNan32 : Word → Word

/-- The real processor's transform of a double-precision NaN pattern, which the source does not give (R170, D13). -/
opaque Config.fixNan64 : DWord → DWord

/-- P_FIXNAN32 (w = 32) or P_FIXNAN64 (w = 64): a total function of bit patterns (R5, R169, R170, D13), written as
plain data because State holds it. `table` alone reaches every total function (`exists_table_eq`
in Laws/Bits.lean), so a claim can set the function and quantify over it. notes/assumptions/3.md. -/
inductive NanHook (w : Nat) where
  /-- The identity: the default of R5, "flagged as a known deviation from the real processor" (R169). -/
  | passThrough
  /-- A function about which nothing is assumed: the uninterpreted `Config.fixNan32` or `Config.fixNan64`. -/
  | unknown
  /-- The function that sends each pattern listed first in a pair to the second of its first such pair, and every
  pattern not listed to itself. -/
  | table (rows : List (BitVec w × BitVec w))
  deriving DecidableEq, Repr

/-- The parameters of R5, each a field. P_XLEN is the word type itself (notes/assumptions/12.md); a bit range is given
by its lowest bit, its width being the width of the field it fills (notes/assumptions/13.md). -/
structure Params where
  /-- P_ILEN: the constant subtracted by RAISEFPUDIS and ADJSLOT. -/
  ilen : Word
  /-- P_SR_RB -/
  srRb : Fin 32
  /-- P_SR_MD -/
  srMd : Fin 32
  /-- P_SR_BL -/
  srBl : Fin 32
  /-- P_SR_FD -/
  srFd : Fin 32
  /-- P_SR_IMASK, the lowest of its four bits. -/
  srImask : Fin 32
  /-- P_SR_WMASK -/
  srWmask : Word
  /-- P_RB_GATED_BY_MD -/
  rbGatedByMd : Bool
  /-- P_FPSCR_FR -/
  fpscrFr : Fin 32
  /-- P_FPSCR_SZ -/
  fpscrSz : Fin 32
  /-- P_FPSCR_PR -/
  fpscrPr : Fin 32
  /-- P_FPSCR_DN -/
  fpscrDn : Fin 32
  /-- P_FPSCR_RM, the lowest of its two bits. -/
  fpscrRm : Fin 32
  /-- P_FPSCR_WMASK -/
  fpscrWmask : Word
  /-- P_FIXNAN32 -/
  fixNan32 : NanHook 32
  /-- P_FIXNAN64 -/
  fixNan64 : NanHook 64
  /-- P_HOST_FPU_CTL -/
  hostFpuCtl : Bool
  /-- P_EXC_SR_SET -/
  excSrSet : Word
  /-- P_EXC_SAVES_SGR -/
  excSavesSgr : Bool
  /-- P_RESET_VECTOR -/
  resetVector : Word
  /-- P_RESET_EVENTS -/
  resetEvents : List Word
  /-- P_MMU_REQUIRED -/
  mmuRequired : List Word
  /-- P_NESTED_CHECK_BL -/
  nestedCheckBl : Bool
  /-- P_RESET_SR -/
  resetSr : Word
  /-- P_RESET_FPSCR -/
  resetFpscr : Word
  /-- P_RESET_VBR -/
  resetVbr : Word
  deriving DecidableEq, Repr

/-- The defaults of R5, the spec's own decisions D1 to D27. PRESUMED (unsafe): most are "from general knowledge, not in
source", notes/assumptions/14.md; the NaN hooks, notes/assumptions/3.md. -/
def Params.default : Params where
  ilen := 2
  srRb := 29
  srMd := 30
  srBl := 28
  srFd := 15
  srImask := 4
  srWmask := 0x700083F3
  rbGatedByMd := false
  fpscrFr := 21
  fpscrSz := 20
  fpscrPr := 19
  fpscrDn := 18
  fpscrRm := 0
  fpscrWmask := 0x003FFFFF
  fixNan32 := .passThrough
  fixNan64 := .passThrough
  hostFpuCtl := true
  excSrSet := 0x70000000
  excSavesSgr := true
  resetVector := 0xA0000000
  resetEvents := [0x000, 0x020, 0x140]
  mmuRequired := [0x800, 0x820, 0x040, 0x060, 0x080, 0x0A0, 0x0C0, 0x140]
  nestedCheckBl := true
  resetSr := 0x700000F0
  resetFpscr := 0x00040001
  resetVbr := 0x00000000

end Sys2Proof
end

