-- ==== Sys2Proof/Machine/Flags.lean ====
section
/-! DEFINITION. Every computation on status bits: the helper functions of spec/00_scope.md section 7, the write masks and
the status bits of exception entry. The block has no condition codes (R60), so there is no other flag computation. -/

namespace Sys2Proof.Machine

/-- `sr_mode`: the operating mode derived from SR (R45). `bank` is true for bank 1, `md` true for privileged mode. -/
structure SrMode where
  bank : Bool
  md : Bool
  bl : Bool
  imask : BitVec 4
  fd : Bool
  deriving DecidableEq, Repr

/-- `fp_mode`: the floating-point mode derived from FPSCR (R52). -/
structure FpMode where
  bank : Bool
  rm : BitVec 2
  dn : Bool
  pr : Bool
  sz : Bool
  deriving DecidableEq, Repr

/-- `host_fpctl`: what is driven to the host FPU's control word (R57). -/
structure HostFpctl where
  rm : BitVec 2
  ftz : Bool
  deriving DecidableEq, Repr

/-- `bank_of` (R30): the bank an SR value selects. -/
def bankOf (p : Params) (s : Word) : Bool :=
  if p.rbGatedByMd then bit s p.srRb && bit s p.srMd else bit s p.srRb

/-- The interrupt mask of an SR value; P_SR_IMASK governs, not the literal 7:4 (90_conflicts.md C9). -/
def imaskOf (p : Params) (s : Word) : BitVec 4 := s.extractLsb' p.srImask.val 4

/-- `sr_decode` (R45). -/
def srDecode (p : Params) (s : Word) : SrMode where
  bank := bankOf p s
  md := bit s p.srMd
  bl := bit s p.srBl
  imask := imaskOf p s
  fd := bit s p.srFd

/-- `fpbank_of` (R49): the bank an FPSCR value selects. -/
def fpbankOf (p : Params) (f : Word) : Bool := bit f p.fpscrFr

/-- The rounding mode of an FPSCR value; P_FPSCR_RM governs (90_conflicts.md C9). -/
def rmOf (p : Params) (f : Word) : BitVec 2 := f.extractLsb' p.fpscrRm.val 2

/-- `fpscr_decode` (R52). -/
def fpscrDecode (p : Params) (f : Word) : FpMode where
  bank := fpbankOf p f
  rm := rmOf p f
  dn := bit f p.fpscrDn
  pr := bit f p.fpscrPr
  sz := bit f p.fpscrSz

/-- What SETFSR drives (R185): the rounding mode and the denormal bit of the raw FPSCR. -/
def hostFpctlOf (p : Params) (f : Word) : HostFpctl where
  rm := rmOf p f
  ftz := bit f p.fpscrDn

/-- What a write of `v` leaves in SR (R32). -/
def maskSr (p : Params) (v : Word) : Word := v &&& p.srWmask

/-- What a write of `v` leaves in FPSCR (R43). -/
def maskFpscr (p : Params) (v : Word) : Word := v &&& p.fpscrWmask

/-- SR on exception entry: MD, RB, BL set, every other bit kept (R196). -/
def entrySr (p : Params) (s : Word) : Word := maskSr p (s ||| p.excSrSet)

/-- `slot_remap` (R202): a fixed table on full 32-bit event codes, not a formula. -/
def slotRemap (e : Word) : Word :=
  if e = 0x00000800 then 0x00000820 else if e = 0x00000180 then 0x000001A0 else e

/-- Membership in P_RESET_EVENTS, on all 32 bits (R95, R196). -/
def isResetEvent (p : Params) (evt : Word) : Bool := p.resetEvents.contains evt

/-- Membership in P_MMU_REQUIRED, on all 32 bits (R95, R196). -/
def isMmuRequired (p : Params) (evt : Word) : Bool := p.mmuRequired.contains evt

/-- The function a table of a `NanHook` stands for: the listed result, or the pattern itself where none is listed. -/
def applyTable {w : Nat} (rows : List (BitVec w × BitVec w)) (v : BitVec w) : BitVec w := (rows.lookup v).getD v

/-- P_FIXNAN32 (R169). -/
def fixNan32 (h : NanHook 32) (v : Word) : Word :=
  match h with
  | .passThrough => v
  | .unknown => Config.fixNan32 v
  | .table rows => applyTable rows v

/-- P_FIXNAN64 (R170). -/
def fixNan64 (h : NanHook 64) (v : DWord) : DWord :=
  match h with
  | .passThrough => v
  | .unknown => Config.fixNan64 v
  | .table rows => applyTable rows v

end Sys2Proof.Machine
end

