-- ==== Sys2Proof/Machine/State.lean ====
section
/-! DEFINITION. The whole state of the block (R20 and the table of spec/10_state.md), the reasons a step can stop, and the
state after reset (R251). -/

namespace Sys2Proof.Machine

/-- The states of the Exception Controller (R54, R235). -/
inductive ExcState where
  | normal
  | exceptionPending
  deriving DecidableEq, Repr

/-- `fatal_reason` (R58, R232). -/
inductive FatalReason where
  | none
  | mmuConfig
  | nested
  | illegalCmd
  deriving DecidableEq, Repr

/-- The status of a response (R91). -/
inductive Status where
  | ok
  | thrown
  | fail
  | fatal
  deriving DecidableEq, Repr

/-- A response on the command port (R91). -/
structure Response where
  status : Status
  q : DWord
  qb : Word
  qc : Word
  deriving DecidableEq, Repr

/-- The severities of the host error output: the source uses one (R59). -/
inductive Severity where
  | error
  deriving DecidableEq, Repr

/-- One report on the host error output (R59). -/
structure HostError where
  severity : Severity
  reason : FatalReason
  deriving DecidableEq, Repr

/-- What the outside can do to the block between two operations: request one on the command port (R90), or assert the
reset input (R250), which samples the configuration input FullMMU (R254; notes/assumptions/9.md). -/
inductive Input where
  | request (r : Request)
  | reset (fullMMU : Bool)
  deriving DecidableEq, Repr

/-- The state of the block. A bank bit is true for bank 1. -/
structure State where
  /-- The parameters (R5): constant (R254). -/
  params : Params
  /-- The configuration input FullMMU (R4): constant between two resets (R254). -/
  fullMMU : Bool
  /-- GB0[0..7] (R22). -/
  gb0 : Vector Word 8
  /-- GB1[0..7] (R22). -/
  gb1 : Vector Word 8
  /-- RH[8..15] (R22): RH[8] is element 0. -/
  rh : Vector Word 8
  /-- gpr_bank (R23). -/
  gprBank : Bool
  /-- PC (R27). -/
  pc : Word
  /-- SR (R29). -/
  sr : Word
  /-- SSR (R33). -/
  ssr : Word
  /-- SPC (R34). -/
  spc : Word
  /-- SGR (R35). -/
  sgr : Word
  /-- DBR (R36). -/
  dbr : Word
  /-- VBR (R37). -/
  vbr : Word
  /-- MAC (R38); MACH and MACL are its halves. -/
  mac : DWord
  /-- PR (R39). -/
  pr : Word
  /-- FPUL (R40). -/
  fpul : Word
  /-- FPSCR (R41). -/
  fpscr : Word
  /-- old_sr (R44). -/
  oldSr : Word
  /-- old_fpscr (R46). -/
  oldFpscr : Word
  /-- sr_mode (R45), a mode output. -/
  srMode : SrMode
  /-- FB0[0..15] (R47). -/
  fb0 : Vector Word 16
  /-- FB1[0..15] (R47). -/
  fb1 : Vector Word 16
  /-- fp_bank (R49). -/
  fpBank : Bool
  /-- fp_mode (R52), a mode output. -/
  fpMode : FpMode
  /-- exc_state (R54). -/
  excState : ExcState
  /-- EXPEVT (R55). -/
  expevt : Word
  /-- host_fpctl (R57); none when P_HOST_FPU_CTL is false: "the latch does not exist" (notes/assumptions/11.md). -/
  hostFpctl : Option HostFpctl
  /-- fatal (R58). -/
  fatal : Bool
  /-- fatal_reason (R58). -/
  fatalReason : FatalReason
  /-- The response to the last request; none right after reset (R91; notes/assumptions/7.md). -/
  response : Option Response
  /-- Everything driven on the host error output so far, oldest first (R59; notes/assumptions/8.md). -/
  hostErrors : List HostError
  /-- The inputs not yet taken, next first. The model's own field, notes/assumptions/5.md. -/
  inputs : List Input
  /-- How many free draws have been made. The model's own field, notes/assumptions/4.md. -/
  draws : Nat
  deriving DecidableEq, Repr

/-- Why a step can end in a fault: nothing. The block answers every request, and its own fatal stop is a state it goes
to (R58, R103), so no constructor is needed (notes/assumptions/20.md). -/
inductive Fault where
  deriving DecidableEq, Repr

/-- Why a step can be refused. -/
inductive Refusal where
  /-- Raised by `exec` for an instruction that has no meaning yet; safe. No arm raises it in this model. -/
  | notModelled (mnemonic : String)
  deriving DecidableEq, Repr

/-- What an operation or a step answers. -/
abbrev Result := Host.Outcome State Fault Refusal

/-- The state right after reset (R251), with the unspecified words drawn freely (R62): cell numbers tell one word from
another, `draw` one reset from another (notes/assumptions/4.md). P_RESET_SR and P_RESET_FPSCR are stored as they are
(notes/assumptions/15.md). -/
def State.afterReset (p : Params) (fullMMU : Bool) (draw : Nat) : State where
  params := p
  fullMMU := fullMMU
  gb0 := Vector.ofFn fun n => Config.freeWord draw n.val
  gb1 := Vector.ofFn fun n => Config.freeWord draw (8 + n.val)
  rh := Vector.ofFn fun n => Config.freeWord draw (16 + n.val)
  gprBank := bankOf p p.resetSr
  pc := p.resetVector
  sr := p.resetSr
  ssr := Config.freeWord draw 24
  spc := Config.freeWord draw 25
  sgr := Config.freeWord draw 26
  dbr := Config.freeWord draw 27
  vbr := p.resetVbr
  mac := joinWords (Config.freeWord draw 28) (Config.freeWord draw 29)
  pr := Config.freeWord draw 30
  fpul := Config.freeWord draw 31
  fpscr := p.resetFpscr
  oldSr := p.resetSr
  oldFpscr := p.resetFpscr
  srMode := srDecode p p.resetSr
  fb0 := Vector.ofFn fun n => Config.freeWord draw (32 + n.val)
  fb1 := Vector.ofFn fun n => Config.freeWord draw (48 + n.val)
  fpBank := fpbankOf p p.resetFpscr
  fpMode := fpscrDecode p p.resetFpscr
  excState := .normal
  expevt := 0
  hostFpctl := if p.hostFpuCtl then some (hostFpctlOf p p.resetFpscr) else none
  fatal := false
  fatalReason := .none
  response := none
  hostErrors := []
  inputs := []
  draws := draw + 1

/-- The machine right after its first reset: the default parameters (R5), FullMMU open (R4), nothing requested. -/
def State.reset : State := State.afterReset Params.default Config.fullMMU 0

end Sys2Proof.Machine
end

