-- ==== Sys2Proof/Machine/Operands.lean ====
section
/-! DEFINITION. Every operand form of the block: the views onto the register storage (R23, R24, R48, R50, R51), the scalar
register identifiers (R96) and the halves of MAC (R38). There is no addressing mode and no memory operand (R155). -/

namespace Sys2Proof.Machine

/-! ## General registers -/

/-- The physical bank of r0..r7 that bit `b` selects: GB1 when it is set, GB0 when not (R22). -/
def State.gb (s : State) (b : Bool) : Vector Word 8 := if b then s.gb1 else s.gb0

/-- Write word n of bank `b`; the other bank keeps its words (R25). -/
def State.setGb (s : State) (b : Bool) (n : Fin 8) (v : Word) : State :=
  if b then { s with gb1 := s.gb1.set n.val v } else { s with gb0 := s.gb0.set n.val v }

/-- `r[n]` (R23): through the derived bit gpr_bank for n < 8, RH[n] otherwise. -/
def State.readR (s : State) (n : Fin 16) : Word :=
  if h : n.val < 8 then (s.gb s.gprBank)[n.val] else s.rh[n.val - 8]

/-- `r[n] <- v` (R23, R122). -/
def State.writeR (s : State) (n : Fin 16) (v : Word) : State :=
  if h : n.val < 8 then s.setGb s.gprBank ⟨n.val, h⟩ v else { s with rh := s.rh.set (n.val - 8) v }

/-- `r_bank[n]` (R24): the inactive bank. -/
def State.readRBank (s : State) (n : Fin 8) : Word := (s.gb (!s.gprBank))[n.val]

/-- `r_bank[n] <- v` (R24, R124). -/
def State.writeRBank (s : State) (n : Fin 8) (v : Word) : State := s.setGb (!s.gprBank) n v

/-! ## Floating-point views -/

/-- FB[b] (R160): FB1 when the bit is set, FB0 when not. -/
def State.fb (s : State) (b : Bool) : Vector Word 16 := if b then s.fb1 else s.fb0

/-- Write slot n of FB[b]; the other bank keeps its slots. -/
def State.setFb (s : State) (b : Bool) (n : Fin 16) (v : Word) : State :=
  if b then { s with fb1 := s.fb1.set n.val v } else { s with fb0 := s.fb0.set n.val v }

/-- `fr[n]` (R48). -/
def State.readFr (s : State) (n : Fin 16) : Word := (s.fb s.fpBank)[n.val]

/-- `fr[n] <- v` (R48, R162). -/
def State.writeFr (s : State) (n : Fin 16) (v : Word) : State := s.setFb s.fpBank n v

/-- `xf[n]` (R48). -/
def State.readXf (s : State) (n : Fin 16) : Word := (s.fb (!s.fpBank))[n.val]

/-- `xf[n] <- v` (R48, R164). -/
def State.writeXf (s : State) (n : Fin 16) (v : Word) : State := s.setFb (!s.fpBank) n v

/-- Slot 2n of a pair, the more significant half (R50). -/
def evenSlot (n : Fin 8) : Fin 16 := ⟨2 * n.val, by omega⟩

/-- Slot 2n + 1 of a pair, the less significant half (R50). -/
def oddSlot (n : Fin 8) : Fin 16 := ⟨2 * n.val + 1, by omega⟩

/-- `dr[n] = fr[2n] : fr[2n+1]` (R50). -/
def State.readDr (s : State) (n : Fin 8) : DWord := joinWords (s.readFr (evenSlot n)) (s.readFr (oddSlot n))

/-- `dr[n] <- v` (R50, R166). -/
def State.writeDr (s : State) (n : Fin 8) (v : DWord) : State :=
  (s.writeFr (evenSlot n) (hiWord v)).writeFr (oddSlot n) (loWord v)

/-- `xd[n] = xf[2n] : xf[2n+1]` (R51). -/
def State.readXd (s : State) (n : Fin 8) : DWord := joinWords (s.readXf (evenSlot n)) (s.readXf (oddSlot n))

/-- `xd[n] <- v` (R51, R168). -/
def State.writeXd (s : State) (n : Fin 8) (v : DWord) : State :=
  (s.writeXf (evenSlot n) (hiWord v)).writeXf (oddSlot n) (loWord v)

/-! ## Scalar registers -/

/-- The scalar registers of R96 that can be both read and written, in the order of their identifiers. -/
inductive ScalarReg where
  | sr
  | ssr
  | spc
  | sgr
  | dbr
  | vbr
  | pr
  | fpul
  | pc
  | fpscr
  | mach
  | macl
  deriving DecidableEq, Repr

/-- MACH = MAC[63:32] (R38). -/
def State.mach (s : State) : Word := hiWord s.mac

/-- MACL = MAC[31:0] (R38). -/
def State.macl (s : State) : Word := loWord s.mac

/-- Read a scalar register: the raw value (R125 to R147). -/
def State.readScalar (s : State) : ScalarReg → Word
  | .sr => s.sr
  | .ssr => s.ssr
  | .spc => s.spc
  | .sgr => s.sgr
  | .dbr => s.dbr
  | .vbr => s.vbr
  | .pr => s.pr
  | .fpul => s.fpul
  | .pc => s.pc
  | .fpscr => s.fpscr
  | .mach => s.mach
  | .macl => s.macl

/-- Write a scalar register: SR and FPSCR through their masks, raw, and half of MAC keeping the other half
(R126 to R148). No derived state changes. -/
def State.writeScalar (s : State) (x : ScalarReg) (v : Word) : State :=
  match x with
  | .sr => { s with sr := maskSr s.params v }
  | .ssr => { s with ssr := v }
  | .spc => { s with spc := v }
  | .sgr => { s with sgr := v }
  | .dbr => { s with dbr := v }
  | .vbr => { s with vbr := v }
  | .pr => { s with pr := v }
  | .fpul => { s with fpul := v }
  | .pc => { s with pc := v }
  | .fpscr => { s with fpscr := maskFpscr s.params v }
  | .mach => { s with mac := joinWords v s.macl }
  | .macl => { s with mac := joinWords s.mach v }

/-- The scalar registers with identifiers 0x00 to 0x07 (R96), debug identifiers 0x20 to 0x27 (R97). -/
def scalarLo (id : Fin 8) : ScalarReg :=
  match id with
  | 0 => .sr
  | 1 => .ssr
  | 2 => .spc
  | 3 => .sgr
  | 4 => .dbr
  | 5 => .vbr
  | 6 => .pr
  | 7 => .fpul

/-- The scalar registers with identifiers 0x08 to 0x0B (R96), debug identifiers 0x28 to 0x2B (R97). -/
def scalarHi (id : Fin 4) : ScalarReg :=
  match id with
  | 0 => .pc
  | 1 => .fpscr
  | 2 => .mach
  | 3 => .macl

/-- The shadows, debug identifiers 0x2C and 0x2D, which can be peeked and not poked (R97). -/
def State.readShadow (s : State) (id : Fin 2) : Word :=
  match id with
  | 0 => s.oldSr
  | 1 => s.oldFpscr

end Sys2Proof.Machine
end

