-- ==== Sys2Proof/Machine/Ops.lean ====
section
/-! DEFINITION. The operations every meaning is written with: answering, the fatal stop, the two updaters, taking an
exception and returning from one, reset, and the common check before any operation (R120). -/

namespace Sys2Proof.Machine

/-! ## Responses -/

/-- Status OK with a 64-bit result on Q (R91). -/
def Response.okQ (q : DWord) : Response := ⟨.ok, q, 0, 0⟩

/-- Status OK with a 32-bit result in Q[31:0] and zeros above it (R91). -/
def Response.okWord (v : Word) : Response := .okQ (zext64 v)

/-- Status OK and no result (R91). -/
def Response.okEmpty : Response := .okQ 0

/-- Status OK with a ThrownException on the result buses (R98, R201). -/
def Response.okTriple (epc evt vec : Word) : Response := ⟨.ok, zext64 epc, evt, vec⟩

/-- Status THROWN (R91, R98). -/
def Response.thrownTriple (epc evt vec : Word) : Response := ⟨.thrown, zext64 epc, evt, vec⟩

/-- Status FAIL (R91, R197). -/
def Response.failed : Response := ⟨.fail, 0, 0, 0⟩

/-- Status FATAL with zero result buses (R103). -/
def Response.stopped : Response := ⟨.fatal, 0, 0, 0⟩

/-- Answer the request; nothing else changes. -/
def State.answer (s : State) (r : Response) : State := { s with response := some r }

/-- Answer OK with a 32-bit result. -/
def State.okWord (s : State) (v : Word) : State := s.answer (.okWord v)

/-- Answer OK with a 64-bit result. -/
def State.okQ (s : State) (v : DWord) : State := s.answer (.okQ v)

/-- Answer OK with no result. -/
def State.ok (s : State) : State := s.answer .okEmpty

/-! ## The fatal stop -/

/-- `fatal(reason)` (00_scope.md section 6; R58, R59): the sticky flag, one report of severity error on the host error
output, status FATAL. -/
def State.stop (s : State) (reason : FatalReason) : State :=
  { s with fatal := true, fatalReason := reason, hostErrors := s.hostErrors ++ [⟨.error, reason⟩],
           response := some .stopped }

/-- The first common check of R120: a stopped block answers FATAL and changes nothing (R103); otherwise the operation
runs. Every operation answers (R91), so the result is always a next state. -/
def complete (s : State) (op : State → State) : Result :=
  .next (if s.fatal then s.answer .stopped else op s)

/-! ## The updaters -/

/-- The state UPDSR writes (R181): gpr_bank, sr_mode, old_sr. No data moves (R25). -/
def State.updateSr (s : State) : State :=
  { s with gprBank := bankOf s.params s.sr, srMode := srDecode s.params s.sr, oldSr := s.sr }

/-- Whether UPDSR reports a change of bank (R181): bank_of(SR) against bank_of(old_sr). -/
def State.bankChanged (s : State) : Bool := bankOf s.params s.sr != bankOf s.params s.oldSr

/-- The state UPDFPSCR writes (R183): fp_bank, fp_mode, old_fpscr. -/
def State.updateFpscr (s : State) : State :=
  { s with fpBank := fpbankOf s.params s.fpscr, fpMode := fpscrDecode s.params s.fpscr, oldFpscr := s.fpscr }

/-- What SETFSR drives (R185), or nothing in the stub form (R186). -/
def State.driveHostFpu (s : State) : State :=
  if s.params.hostFpuCtl then { s with hostFpctl := some (hostFpctlOf s.params s.fpscr) } else s

/-! ## Exceptions -/

/-- DOEXC is refused for want of MMU support (R196, R197). -/
def State.refusesDelivery (s : State) (evt : Word) : Bool := isMmuRequired s.params evt && !s.fullMMU

/-- DOEXC is a nested exception (R198): a delivery is pending, or exceptions are blocked and the event is not of the
reset class. -/
def State.isNested (s : State) (evt : Word) : Bool :=
  s.excState == .exceptionPending ||
    (s.params.nestedCheckBl && bit s.sr s.params.srBl && !isResetEvent s.params evt)

/-- Where control goes (R79, R196): the reset vector, or VBR plus the offset modulo 2^32. -/
def State.handler (s : State) (evt vec : Word) : Word :=
  if isResetEvent s.params evt then s.params.resetVector else s.vbr + vec

/-- Taking an exception (R196, R222): the saves, EXPEVT, the status bits of entry, the derived state, PC. The controller
passes through ExceptionPending and is back in Normal when it ends (R54; notes/assumptions/19.md). -/
def State.takeException (s : State) (pc evt vec : Word) : State :=
  { State.updateSr
      { s with
        ssr := s.sr
        spc := pc
        sgr := if s.params.excSavesSgr then s.readR 15 else s.sgr
        expevt := evt
        sr := entrySr s.params s.sr } with
    pc := s.handler evt vec
    excState := .normal }

/-- Returning from an exception (R225): what the sequence `RTE` leaves. There is no operation for it (D30):
Machine/Pseudo.lean has the sequence itself. -/
def State.returnFromException (s : State) : State :=
  { State.updateSr { s with sr := maskSr s.params s.ssr } with pc := s.spc }

/-! ## The ports -/

/-- The reset input (R251) with FullMMU at the level it has at that reset. The parameters, the inputs still to come and
the record of the host error output are not the block's and stay (notes/assumptions/8.md, 9.md). -/
def State.applyReset (s : State) (fullMMU : Bool) : State :=
  { State.afterReset s.params fullMMU s.draws with inputs := s.inputs, hostErrors := s.hostErrors }

/-- Nothing is requested: nothing changes (R3, R234). -/
def State.idle (s : State) : State := s

/-- The requests and resets left after the next one is taken. -/
def State.dropInput (s : State) (rest : List Input) : State := { s with inputs := rest }

/-- A reserved command word (R104), after the check for a stopped block (R120). -/
def illegalCommand (s : State) : Result := complete s fun s => s.stop .illegalCmd

end Sys2Proof.Machine
end

