-- ==== Sys2Proof/Machine/Debug.lean ====
section
/-! DEFINITION. The meanings of the debug port (spec/40_register_file_ops.md, R152 to R154). An identifier is resolved through gpr_bank
and fp_bank at the time of the request; the answer is a value, never a location (R154). -/

namespace Sys2Proof.Machine

/-- DBG.PEEK, identifiers from 0x00: `r[n]` (R97, R152). -/
def execDbgPeekR (n : Fin 16) (s : State) : Result :=
  complete s fun s => s.okWord (s.readR n)

/-- DBG.PEEK, identifiers from 0x10: `r_bank[n]` (R97, R152). -/
def execDbgPeekRBank (n : Fin 8) (s : State) : Result :=
  complete s fun s => s.okWord (s.readRBank n)

/-- DBG.PEEK, identifiers from 0x20: SR, SSR, SPC, SGR, DBR, VBR, PR, FPUL (R97, R152). -/
def execDbgPeekScalarLo (id : Fin 8) (s : State) : Result :=
  complete s fun s => s.okWord (s.readScalar (scalarLo id))

/-- DBG.PEEK, identifiers from 0x28: PC, FPSCR, MACH, MACL (R97, R152). -/
def execDbgPeekScalarHi (id : Fin 4) (s : State) : Result :=
  complete s fun s => s.okWord (s.readScalar (scalarHi id))

/-- DBG.PEEK, identifiers from 0x2C: `old_sr`, `old_fpscr` (R97, R152). -/
def execDbgPeekShadow (id : Fin 2) (s : State) : Result :=
  complete s fun s => s.okWord (s.readShadow id)

/-- DBG.PEEK, identifiers from 0x2E: EXPEVT (R97, R152). -/
def execDbgPeekExpevt (s : State) : Result :=
  complete s fun s => s.okWord (s.expevt)

/-- DBG.PEEK, identifiers from 0x40: `fr[n]` (R97, R152). -/
def execDbgPeekFr (n : Fin 16) (s : State) : Result :=
  complete s fun s => s.okWord (s.readFr n)

/-- DBG.PEEK, identifiers from 0x50: `xf[n]` (R97, R152). -/
def execDbgPeekXf (n : Fin 16) (s : State) : Result :=
  complete s fun s => s.okWord (s.readXf n)

/-- DBG.POKE, identifiers from 0x00: `r[n]` (R97, R153). -/
def execDbgPokeR (n : Fin 16) (v : Word) (s : State) : Result :=
  complete s fun s => (s.writeR n v).ok

/-- DBG.POKE, identifiers from 0x10: `r_bank[n]` (R97, R153). -/
def execDbgPokeRBank (n : Fin 8) (v : Word) (s : State) : Result :=
  complete s fun s => (s.writeRBank n v).ok

/-- DBG.POKE, identifiers from 0x20: SR, SSR, SPC, SGR, DBR, VBR, PR, FPUL (R97, R153). SR is written raw through its mask. -/
def execDbgPokeScalarLo (id : Fin 8) (v : Word) (s : State) : Result :=
  complete s fun s => (s.writeScalar (scalarLo id) v).ok

/-- DBG.POKE, identifiers from 0x28: PC, FPSCR, MACH, MACL (R97, R153). FPSCR is written raw through its mask. -/
def execDbgPokeScalarHi (id : Fin 4) (v : Word) (s : State) : Result :=
  complete s fun s => (s.writeScalar (scalarHi id) v).ok

/-- DBG.POKE, identifiers from 0x40: `fr[n]` (R97, R153). -/
def execDbgPokeFr (n : Fin 16) (v : Word) (s : State) : Result :=
  complete s fun s => (s.writeFr n v).ok

/-- DBG.POKE, identifiers from 0x50: `xf[n]` (R97, R153). -/
def execDbgPokeXf (n : Fin 16) (v : Word) (s : State) : Result :=
  complete s fun s => (s.writeXf n v).ok

end Sys2Proof.Machine
end

