-- ==== Sys2Proof/Machine/ExceptionController.lean ====
section
/-! DEFINITION. The meanings of the Exception Controller operations (spec/43_exception_ops.md, R195 to R205). -/

namespace Sys2Proof.Machine

/-- DOEXC pc, evt, vec, `0x4000` (R196). The checks in the order of R196: MMU refusal, nested, delivery. -/
def execDoexc (pc evt vec : Word) (s : State) : Result :=
  complete s fun s =>
    if s.refusesDelivery evt then s.answer .failed
    else if s.isNested evt then s.stop .nested
    else (s.takeException pc evt vec).ok

/-- RAISEFPUDIS, `0x4100` (R199). THROWN with PC - 2 and no change of state, or the fatal stop of R200.
SR.FD is not tested. -/
def execRaisefpudis (s : State) : Result :=
  complete s fun s =>
    if s.fullMMU then s.answer (.thrownTriple (s.pc - s.params.ilen) 0x00000800 0x00000100)
    else s.stop .mmuConfig

/-- ADJSLOT epc, evt, vec, `0x4200` (R201). A pure function of its operands, whatever the event code. -/
def execAdjslot (epc evt vec : Word) (s : State) : Result :=
  complete s fun s => s.answer (.okTriple (epc - s.params.ilen) (slotRemap evt) vec)

end Sys2Proof.Machine
end

