-- ==== Sys2Proof/Machine/FpView.lean ====
section
/-! DEFINITION. The meanings of the Floating-Point View Model operations (spec/41_fp_view_ops.md, R160 to R171). Every value is a bit
pattern; none of them reads FPSCR, SR.FD or any mode bit but fp_bank (R160). -/

namespace Sys2Proof.Machine

/-- GETFR n, `0x200n` (R161). -/
def execGetfr (n : Fin 16) (s : State) : Result :=
  complete s fun s => s.okWord (s.readFr n)

/-- SETFR n, v, `0x210n` (R162). -/
def execSetfr (n : Fin 16) (v : Word) (s : State) : Result :=
  complete s fun s => (s.writeFr n v).ok

/-- GETXF n, `0x220n` (R163). -/
def execGetxf (n : Fin 16) (s : State) : Result :=
  complete s fun s => s.okWord (s.readXf n)

/-- SETXF n, v, `0x230n` (R164). -/
def execSetxf (n : Fin 16) (v : Word) (s : State) : Result :=
  complete s fun s => (s.writeXf n v).ok

/-- GETDR n, `0x240n` (R165). Reinterpreted, not converted. -/
def execGetdr (n : Fin 8) (s : State) : Result :=
  complete s fun s => s.okQ (s.readDr n)

/-- SETDR n, v, `0x250n` (R166). Both slots in one step. -/
def execSetdr (n : Fin 8) (v : DWord) (s : State) : Result :=
  complete s fun s => (s.writeDr n v).ok

/-- GETXD n, `0x260n` (R167). Reinterpreted, not converted. -/
def execGetxd (n : Fin 8) (s : State) : Result :=
  complete s fun s => s.okQ (s.readXd n)

/-- SETXD n, v, `0x270n` (R168). Both slots in one step. -/
def execSetxd (n : Fin 8) (v : DWord) (s : State) : Result :=
  complete s fun s => (s.writeXd n v).ok

/-- FIXNAN v, `0x2800` (R169). P_FIXNAN32 of the operand; the default is the identity, a known deviation from the
real processor (notes/assumptions/3.md). -/
def execFixnan (v : Word) (s : State) : Result :=
  complete s fun s => s.okWord (fixNan32 s.params.fixNan32 v)

/-- FIXNAN64 v, `0x2900` (R170). P_FIXNAN64 of the operand (notes/assumptions/3.md). -/
def execFixnan64 (v : DWord) (s : State) : Result :=
  complete s fun s => s.okQ (fixNan64 s.params.fixNan64 v)

end Sys2Proof.Machine
end

