-- ==== Sys2Proof/Machine/RegisterFile.lean ====
section
/-! DEFINITION. The meanings of the Register File operations (spec/40_register_file_ops.md, R120 to R151). None has an error condition
of its own. -/

namespace Sys2Proof.Machine

/-- GETR n, `0x100n` (R121). Follows gpr_bank, not the raw SR bit. -/
def execGetr (n : Fin 16) (s : State) : Result :=
  complete s fun s => s.okWord (s.readR n)

/-- SETR n, v, `0x110n` (R122). Exactly one physical word changes. -/
def execSetr (n : Fin 16) (v : Word) (s : State) : Result :=
  complete s fun s => (s.writeR n v).ok

/-- GETRB n, `0x120n` (R123). -/
def execGetrb (n : Fin 8) (s : State) : Result :=
  complete s fun s => s.okWord (s.readRBank n)

/-- SETRB n, v, `0x130n` (R124). The active view is unchanged. -/
def execSetrb (n : Fin 8) (v : Word) (s : State) : Result :=
  complete s fun s => (s.writeRBank n v).ok

/-- GET.SR, `0x1400` (R125). The raw value, not old_sr. -/
def execGetSr (s : State) : Result :=
  complete s fun s => s.okWord (s.readScalar .sr)

/-- GET.SSR, `0x1401` (R127). -/
def execGetSsr (s : State) : Result :=
  complete s fun s => s.okWord (s.readScalar .ssr)

/-- GET.SPC, `0x1402` (R129). -/
def execGetSpc (s : State) : Result :=
  complete s fun s => s.okWord (s.readScalar .spc)

/-- GET.SGR, `0x1403` (R131). -/
def execGetSgr (s : State) : Result :=
  complete s fun s => s.okWord (s.readScalar .sgr)

/-- GET.DBR, `0x1404` (R133). -/
def execGetDbr (s : State) : Result :=
  complete s fun s => s.okWord (s.readScalar .dbr)

/-- GET.VBR, `0x1405` (R135). -/
def execGetVbr (s : State) : Result :=
  complete s fun s => s.okWord (s.readScalar .vbr)

/-- GET.PR, `0x1406` (R137). -/
def execGetPr (s : State) : Result :=
  complete s fun s => s.okWord (s.readScalar .pr)

/-- GET.FPUL, `0x1407` (R139). -/
def execGetFpul (s : State) : Result :=
  complete s fun s => s.okWord (s.readScalar .fpul)

/-- GET.PC, `0x1408` (R141). -/
def execGetPc (s : State) : Result :=
  complete s fun s => s.okWord (s.readScalar .pc)

/-- GET.FPSCR, `0x1409` (R143). The raw value, not old_fpscr. -/
def execGetFpscr (s : State) : Result :=
  complete s fun s => s.okWord (s.readScalar .fpscr)

/-- GET.MACH, `0x140A` (R145). -/
def execGetMach (s : State) : Result :=
  complete s fun s => s.okWord (s.readScalar .mach)

/-- GET.MACL, `0x140B` (R147). -/
def execGetMacl (s : State) : Result :=
  complete s fun s => s.okWord (s.readScalar .macl)

/-- GET.EXPEVT, `0x140E` (R149). -/
def execGetExpevt (s : State) : Result :=
  complete s fun s => s.okWord s.expevt

/-- SET.SR v, `0x1500` (R126). A raw write through P_SR_WMASK: no derived state changes (R29). -/
def execSetSr (v : Word) (s : State) : Result :=
  complete s fun s => (s.writeScalar .sr v).ok

/-- SET.SSR v, `0x1501` (R128). -/
def execSetSsr (v : Word) (s : State) : Result :=
  complete s fun s => (s.writeScalar .ssr v).ok

/-- SET.SPC v, `0x1502` (R130). -/
def execSetSpc (v : Word) (s : State) : Result :=
  complete s fun s => (s.writeScalar .spc v).ok

/-- SET.SGR v, `0x1503` (R132). -/
def execSetSgr (v : Word) (s : State) : Result :=
  complete s fun s => (s.writeScalar .sgr v).ok

/-- SET.DBR v, `0x1504` (R134). -/
def execSetDbr (v : Word) (s : State) : Result :=
  complete s fun s => (s.writeScalar .dbr v).ok

/-- SET.VBR v, `0x1505` (R136). -/
def execSetVbr (v : Word) (s : State) : Result :=
  complete s fun s => (s.writeScalar .vbr v).ok

/-- SET.PR v, `0x1506` (R138). -/
def execSetPr (v : Word) (s : State) : Result :=
  complete s fun s => (s.writeScalar .pr v).ok

/-- SET.FPUL v, `0x1507` (R140). -/
def execSetFpul (v : Word) (s : State) : Result :=
  complete s fun s => (s.writeScalar .fpul v).ok

/-- SET.PC v, `0x1508` (R142). -/
def execSetPc (v : Word) (s : State) : Result :=
  complete s fun s => (s.writeScalar .pc v).ok

/-- SET.FPSCR v, `0x1509` (R144). A raw write through P_FPSCR_WMASK: no derived state changes (R41). -/
def execSetFpscr (v : Word) (s : State) : Result :=
  complete s fun s => (s.writeScalar .fpscr v).ok

/-- SET.MACH v, `0x150A` (R146). MACL is unchanged. -/
def execSetMach (v : Word) (s : State) : Result :=
  complete s fun s => (s.writeScalar .mach v).ok

/-- SET.MACL v, `0x150B` (R148). MACH is unchanged. -/
def execSetMacl (v : Word) (s : State) : Result :=
  complete s fun s => (s.writeScalar .macl v).ok

/-- GETMAC, `0x1600` (R150). -/
def execGetmac (s : State) : Result :=
  complete s fun s => s.okQ s.mac

/-- SETMAC v, `0x1700` (R151). Both halves in one step. -/
def execSetmac (v : DWord) (s : State) : Result :=
  complete s fun s => State.ok { s with mac := v }

end Sys2Proof.Machine
end

