-- ==== Sys2Proof/Machine/StatusControl.lean ====
section
/-! DEFINITION. The meanings of the Status/Control Flags operations (spec/42_status_control_ops.md, R180 to R186). -/

namespace Sys2Proof.Machine

/-- UPDSR, `0x3000` (R181). The result says whether the active bank changed. -/
def execUpdsr (s : State) : Result :=
  complete s fun s => s.updateSr.okQ (if s.bankChanged then 1 else 0)

/-- UPDFPSCR, `0x3100` (R183). Does not drive host_fpctl (N31). -/
def execUpdfpscr (s : State) : Result :=
  complete s fun s => s.updateFpscr.ok

/-- SETFSR, `0x3200` (R185). Reads the raw FPSCR (R185); a no-op in the stub form (R186). -/
def execSetfsr (s : State) : Result :=
  complete s fun s => s.driveHostFpu.ok

end Sys2Proof.Machine
end

