-- ==== Sys2Proof/Machine/Dispatch.lean ====
section
/-! DEFINITION. One arm per operation of the block, each one call of its meaning. -/

namespace Sys2Proof.Machine

def exec (i : Instr) (s : State) : Host.Outcome State Fault Refusal :=
  match i with
  | .getr n => Sys2Proof.Machine.execGetr n s
  | .setr n v => Sys2Proof.Machine.execSetr n v s
  | .getrb n => Sys2Proof.Machine.execGetrb n s
  | .setrb n v => Sys2Proof.Machine.execSetrb n v s
  | .getSr => Sys2Proof.Machine.execGetSr s
  | .getSsr => Sys2Proof.Machine.execGetSsr s
  | .getSpc => Sys2Proof.Machine.execGetSpc s
  | .getSgr => Sys2Proof.Machine.execGetSgr s
  | .getDbr => Sys2Proof.Machine.execGetDbr s
  | .getVbr => Sys2Proof.Machine.execGetVbr s
  | .getPr => Sys2Proof.Machine.execGetPr s
  | .getFpul => Sys2Proof.Machine.execGetFpul s
  | .getPc => Sys2Proof.Machine.execGetPc s
  | .getFpscr => Sys2Proof.Machine.execGetFpscr s
  | .getMach => Sys2Proof.Machine.execGetMach s
  | .getMacl => Sys2Proof.Machine.execGetMacl s
  | .getExpevt => Sys2Proof.Machine.execGetExpevt s
  | .setSr v => Sys2Proof.Machine.execSetSr v s
  | .setSsr v => Sys2Proof.Machine.execSetSsr v s
  | .setSpc v => Sys2Proof.Machine.execSetSpc v s
  | .setSgr v => Sys2Proof.Machine.execSetSgr v s
  | .setDbr v => Sys2Proof.Machine.execSetDbr v s
  | .setVbr v => Sys2Proof.Machine.execSetVbr v s
  | .setPr v => Sys2Proof.Machine.execSetPr v s
  | .setFpul v => Sys2Proof.Machine.execSetFpul v s
  | .setPc v => Sys2Proof.Machine.execSetPc v s
  | .setFpscr v => Sys2Proof.Machine.execSetFpscr v s
  | .setMach v => Sys2Proof.Machine.execSetMach v s
  | .setMacl v => Sys2Proof.Machine.execSetMacl v s
  | .getmac => Sys2Proof.Machine.execGetmac s
  | .setmac v => Sys2Proof.Machine.execSetmac v s
  | .dbgPeekR n => Sys2Proof.Machine.execDbgPeekR n s
  | .dbgPeekRBank n => Sys2Proof.Machine.execDbgPeekRBank n s
  | .dbgPeekScalarLo id => Sys2Proof.Machine.execDbgPeekScalarLo id s
  | .dbgPeekScalarHi id => Sys2Proof.Machine.execDbgPeekScalarHi id s
  | .dbgPeekShadow id => Sys2Proof.Machine.execDbgPeekShadow id s
  | .dbgPeekExpevt => Sys2Proof.Machine.execDbgPeekExpevt s
  | .dbgPeekFr n => Sys2Proof.Machine.execDbgPeekFr n s
  | .dbgPeekXf n => Sys2Proof.Machine.execDbgPeekXf n s
  | .dbgPokeR n v => Sys2Proof.Machine.execDbgPokeR n v s
  | .dbgPokeRBank n v => Sys2Proof.Machine.execDbgPokeRBank n v s
  | .dbgPokeScalarLo id v => Sys2Proof.Machine.execDbgPokeScalarLo id v s
  | .dbgPokeScalarHi id v => Sys2Proof.Machine.execDbgPokeScalarHi id v s
  | .dbgPokeFr n v => Sys2Proof.Machine.execDbgPokeFr n v s
  | .dbgPokeXf n v => Sys2Proof.Machine.execDbgPokeXf n v s
  | .getfr n => Sys2Proof.Machine.execGetfr n s
  | .setfr n v => Sys2Proof.Machine.execSetfr n v s
  | .getxf n => Sys2Proof.Machine.execGetxf n s
  | .setxf n v => Sys2Proof.Machine.execSetxf n v s
  | .getdr n => Sys2Proof.Machine.execGetdr n s
  | .setdr n v => Sys2Proof.Machine.execSetdr n v s
  | .getxd n => Sys2Proof.Machine.execGetxd n s
  | .setxd n v => Sys2Proof.Machine.execSetxd n v s
  | .fixnan v => Sys2Proof.Machine.execFixnan v s
  | .fixnan64 v => Sys2Proof.Machine.execFixnan64 v s
  | .updsr => Sys2Proof.Machine.execUpdsr s
  | .updfpscr => Sys2Proof.Machine.execUpdfpscr s
  | .setfsr => Sys2Proof.Machine.execSetfsr s
  | .doexc pc evt vec => Sys2Proof.Machine.execDoexc pc evt vec s
  | .raisefpudis => Sys2Proof.Machine.execRaisefpudis s
  | .adjslot epc evt vec => Sys2Proof.Machine.execAdjslot epc evt vec s

end Sys2Proof.Machine
end

