-- ==== Sys2Proof/Machine/Port.lean ====
section
/-! DEFINITION. Serving one request of the command port (R90, R99, R120): decode it, then run the operation it names, or
stop the block on a reserved command word (R104). -/

namespace Sys2Proof.Machine

/-- Serve one request in a state from whose inputs it has been taken. A stopped block answers FATAL on both paths
(R103, R120). -/
def serve (r : Request) (s : State) : Result :=
  match decode r with
  | some i => exec i s
  | none => illegalCommand s

/-- One input of the block: a request on the command port or an assertion of the reset input (R8, R250). -/
def takeInput (x : Input) (s : State) : Result :=
  match x with
  | .request r => serve r s
  | .reset fullMMU => .next (s.applyReset fullMMU)

end Sys2Proof.Machine
end

