-- ==== Sys2Proof/Machine/Step.lean ====
section
/-! DEFINITION. One step: the next input is taken and served; with none, nothing changes. -/

namespace Sys2Proof.Machine

/-- One step of the block. The stream of operations is the list `inputs` (R81; notes/assumptions/5.md): each is atomic
and ends before the next begins (R7). -/
def step (s : State) : Host.Outcome State Fault Refusal :=
  match s.inputs with
  | [] => .next s.idle
  | x :: rest => takeInput x (s.dropInput rest)

/-- `s` with one more request in front of its inputs: the instruction word `w` with its low 16 bits as the command word
and zeros on every operand bus the row gives no bits. The block fetches nothing (R3), so this stands for the external
requester (notes/assumptions/17.md). -/
def State.withFetchWord (s : State) (nbits w : Nat) : State :=
  { s with inputs := .request (Request.ofBits (w % 2 ^ nbits)) :: s.inputs }

end Sys2Proof.Machine
end

