-- ==== Sys2Proof/Machine/Pseudo.lean ====
section
/-! DEFINITION. The pseudo-operations of R106: fixed sequences of real operations that the requester composes. None has
an encoding of its own, so none is an instruction; each is written out with the meanings themselves. -/

namespace Sys2Proof.Machine

/-- Go on with the next request after an answer. -/
def andThen (r : Result) (k : State → Result) : Result :=
  match r with
  | .next s => k s
  | .fault f => .fault f
  | .refused x => .refused x

/-- The 32-bit value a requester reads from the last response: Q[31:0] (R91). -/
def State.lastWord (s : State) : Word :=
  match s.response with
  | some r => loWord r.q
  | none => 0

/-- A ThrownException {faulting PC, event code, vector offset} (R56): a transient value, never state. -/
structure ThrownException where
  epc : Word
  evt : Word
  vec : Word
  deriving DecidableEq, Repr

/-- The triple on the result buses of a response (R98). -/
def Response.triple (r : Response) : ThrownException := ⟨loWord r.q, r.qb, r.qc⟩

/-- `LDSR v` (R106): write SR and honour the update contract. -/
def ldsr (v : Word) (s : State) : Result := andThen (exec (.setSr v) s) (exec .updsr)

/-- `LDFPSCR v` (R106): write FPSCR, update, propagate to the host FPU. -/
def ldfpscr (v : Word) (s : State) : Result :=
  andThen (exec (.setFpscr v) s) fun s => andThen (exec .updfpscr s) (exec .setfsr)

/-- Toggle bits of FPSCR and update: the common shape of FRCHG and FSCHG (R106). -/
def toggleFpscr (m : Word) (s : State) : Result :=
  andThen (exec .getFpscr s) fun s => andThen (exec (.setFpscr (s.lastWord ^^^ m)) s) (exec .updfpscr)

/-- `FRCHG` (R106): toggle the FP bank. -/
def frchg (s : State) : Result := toggleFpscr 0x00200000 s

/-- `FSCHG` (R106): toggle the transfer size. -/
def fschg (s : State) : Result := toggleFpscr 0x00100000 s

/-- `RTE` (R106, R225): the return from an exception handler. -/
def rte (s : State) : Result :=
  andThen (exec .getSsr s) fun s1 =>
  andThen (exec .getSpc s1) fun s2 =>
  andThen (ldsr s1.lastWord s2) fun s3 =>
  exec (.setPc s2.lastWord) s3

/-- `DELIVER ex` (R106): the dispatch point's act. -/
def deliver (ex : ThrownException) (s : State) : Result := exec (.doexc ex.epc ex.evt ex.vec) s

/-- After RAISEFPUDIS: go on with the triple when the response is THROWN; on FATAL the block has stopped and the
requester with it (R203, R221; notes/assumptions/16.md). -/
def onThrown (r : Result) (k : ThrownException → State → Result) : Result :=
  andThen r fun s =>
    match s.response with
    | some ⟨.thrown, q, qb, qc⟩ => k (Response.triple ⟨.thrown, q, qb, qc⟩) s
    | _ => .next s

/-- `FPUDIS` (R106): the FPU-disable exception outside a delay slot. -/
def fpudis (s : State) : Result := onThrown (exec .raisefpudis s) deliver

/-- `FPUDIS.SLOT` (R106, R203): the FPU-disable exception inside a delay slot, ADJSLOT exactly once. -/
def fpudisSlot (s : State) : Result :=
  onThrown (exec .raisefpudis s) fun ex s =>
    andThen (exec (.adjslot ex.epc ex.evt ex.vec) s) fun s =>
      match s.response with
      | some r => deliver r.triple s
      | none => .next s

end Sys2Proof.Machine
end

