-- ==== Sys2Proof/Safety.lean ====
section
/-! DEFINITION. The terms claims are stated in: the invariants of the spec, what a requester owes, and the shapes of an
answer. -/

namespace Sys2Proof.Safety

open Sys2Proof.Machine

/-! ## Invariants -/

/-- R53: the derived state is a function of the shadows, and no delivery is pending between two operations. -/
structure Derived (s : State) : Prop where
  gprBank : s.gprBank = bankOf s.params s.oldSr
  srMode : s.srMode = srDecode s.params s.oldSr
  fpBank : s.fpBank = fpbankOf s.params s.oldFpscr
  fpMode : s.fpMode = fpscrDecode s.params s.oldFpscr
  excState : s.excState = .normal

/-- The reset constants have no bit outside the write masks (true of the defaults of R5). -/
def Coherent (p : Params) : Prop :=
  maskSr p p.resetSr = p.resetSr ∧ maskFpscr p p.resetFpscr = p.resetFpscr

/-- R32, R43: the reserved bits of SR and FPSCR, and of their shadows, read 0. -/
structure ReservedClear (s : State) : Prop where
  sr : maskSr s.params s.sr = s.sr
  oldSr : maskSr s.params s.oldSr = s.oldSr
  fpscr : maskFpscr s.params s.fpscr = s.fpscr
  oldFpscr : maskFpscr s.params s.oldFpscr = s.oldFpscr

/-- R57, R58: the host latch exists exactly when P_HOST_FPU_CTL says so, and a reason stands exactly while the block is
stopped. -/
structure Outputs (s : State) : Prop where
  hostFpctl : s.hostFpctl.isSome = s.params.hostFpuCtl
  fatalReason : s.fatal = true ↔ s.fatalReason ≠ .none

/-! ## What a requester owes and reads -/

/-- UPDSR is owed: a raw write of SR has not reached the derived state (R29, R260). -/
def owesUpdsr (s : State) : Prop := s.oldSr ≠ s.sr

/-- UPDFPSCR is owed (R41, R261). -/
def owesUpdfpscr (s : State) : Prop := s.oldFpscr ≠ s.fpscr

/-- What an external interrupt controller reads from the mode outputs (R45, R227): the acceptance rule is "from general
knowledge, not in source" and masks nothing inside the block. -/
def mayPresentInterrupt (s : State) (level : BitVec 4) : Prop := s.srMode.bl = false ∧ s.srMode.imask < level

/-- What the interpreter reads before a floating-point instruction (R218). -/
def fpuDisabled (s : State) : Prop := s.srMode.fd = true

/-! ## Answers -/

/-- An operation completes with status OK and Q = `q`, and leaves the state `t` (whose own response does not matter). -/
def Answers (r : Result) (t : State) (q : DWord) : Prop := r = .next { t with response := some ⟨.ok, q, 0, 0⟩ }

/-- The command word `cmd` selects the operation `i` of the operand buses, whatever they carry. -/
def Selects (cmd : Nat) (i : DWord → Word → Word → Instr) : Prop :=
  ∀ a b c, decode ⟨BitVec.ofNat 16 cmd, a, b, c⟩ = some (i a b c)

/-- The operation `i` has the command word `cmd` and no operand, answers the 32-bit value `v` and changes nothing. -/
def ReadsWord (s : State) (cmd : Nat) (i : Instr) (v : Word) : Prop :=
  Selects cmd (fun _ _ _ => i) ∧ Answers (exec i s) s (zext64 v)

/-- The operation `i` has the command word `cmd` and the operand A[31:0], answers no result and leaves `t v`. -/
def WritesWord (s : State) (cmd : Nat) (i : Word → Instr) (t : Word → State) : Prop :=
  Selects cmd (fun a _ _ => i (a.extractLsb' 0 32)) ∧ ∀ v, Answers (exec (i v) s) (t v) 0

/-- The status of what an operation answered. -/
def statusOf : Result → Option Status
  | .next t => t.response.map (·.status)
  | _ => none

/-- Q of what an operation answered. -/
def resultOf : Result → Option DWord
  | .next t => t.response.map (·.q)
  | _ => none

/-- Run the operations in order and give the last answer: the spec's `op ; op ; op`. -/
def runAll : List Instr → State → Result
  | [], s => .next s
  | i :: is, s => andThen (exec i s) (runAll is)

end Sys2Proof.Safety
end

