-- ==== Sys2Proof/Certificates/Slice0/Obligations.lean ====
section
/-! DEFINITION. The statements for the provers. Each docstring names the rules of spec/ the statement formalises; where a
rule is marked in the spec as the spec's own decision or inference, the docstring says so and the statement is `derived`.
The parameters P_... are fields of the state, so every statement holds for every value of them. -/

open Sys2Proof Sys2Proof.Machine Sys2Proof.Safety

/-! ## Encoding -/

/-- A few words written out from the encodings of R101. -/
def Obligations.WordsOfTheTableDecodeAsWritten : Prop :=
  decodeTableWord 16 0b0001000000000011 = some (.getr 3) ∧
  decodeTableWord 16 0b0001001100000101 = some (.setrb 5 0) ∧
  decodeTableWord 16 0b0001010000001110 = some .getExpevt ∧
  decodeTableWord 16 0b0001010100001001 = some (.setFpscr 0) ∧
  decodeTableWord 16 0b0001100000101101 = some (.dbgPeekShadow 1) ∧
  decodeTableWord 16 0b0001100101010101 = some (.dbgPokeXf 5 0) ∧
  decodeTableWord 16 0b0010011100000011 = some (.setxd 3 0) ∧
  decodeTableWord 16 0b0011000100000000 = some .updfpscr ∧
  decodeTableWord 16 0b0100001000000000 = some (.adjslot 0 0 0) ∧
  decodeTableWord 16 0b0001001000001000 = none

/-- R99 (its encoding is the spec's decision D15): a command word decodes exactly when it matches a row of the opcode
table, to an operation of that row; so no word matches two rows. -/
def Obligations.DecodingFollowsTheOpcodeTable : Prop :=
  ∀ r : Request,
    (∀ i, decode r = some i → rowOf i ∈ opcodeTable ∧ (rowOf i).hits r.cmd = true) ∧
    (∀ row ∈ opcodeTable, row.hits r.cmd = true → ∃ i, decode r = some i ∧ rowOf i = row)

/-- R102 (decision D16): the words the decoder rejects are exactly the reserved ones, format by format. -/
def Obligations.ReservedWordsAreThoseOfTheFormats : Prop :=
  ∀ r : Request, (decode r).isSome = r.wf

/-- Decoding the encoding of an operation gives the operation back, every operand at every value. -/
def Obligations.DecodeOfEncodeIsTheOperation : Prop :=
  ∀ i : Instr, decode (encode i) = some i

/-- Encoding what was decoded gives the request back but for the bus bits the operation ignores, which become 0 (R90,
R94, R98), and the request so trimmed decodes to the same operation. -/
def Obligations.EncodeOfDecodeKeepsTheRequest : Prop :=
  ∀ (r : Request) (i : Instr), decode r = some i →
    (encode i).cmd = r.cmd ∧
    ((encode i).a = r.a ∨ (encode i).a = (r.a.extractLsb' 0 32).setWidth 64 ∨ (encode i).a = 0) ∧
    ((encode i).b = r.b ∨ (encode i).b = 0) ∧
    ((encode i).c = r.c ∨ (encode i).c = 0) ∧
    decode (encode i) = some i

/-! ## The step -/

/-- R99, R120 (decision D15): the step that takes a request runs the operation it decodes to, in the state whose inputs
are the ones left; with nothing requested the block does nothing (R3, R234). The list of inputs and the idle step are
the model's own (notes/assumptions/5.md). -/
def Obligations.StepRunsTheDecodedOperation : Prop :=
  (∀ (s : State) (r : Request) (rest : List Input) (i : Instr),
    s.inputs = .request r :: rest → decode r = some i → step s = exec i { s with inputs := rest }) ∧
  (∀ (s : State) (nbits w : Nat) (i : Instr),
    decodeTableWord nbits w = some i → step (s.withFetchWord nbits w) = exec i s) ∧
  (∀ s : State, s.inputs = [] → step s = .next s)

/-- Every operation answers with a response (R91, decision D15). That nothing stops the model (the fatal stop is a state,
notes/assumptions/20.md; a step with nothing requested answers too, notes/assumptions/5.md) is the model's own reading. -/
def Obligations.EveryRequestIsAnswered : Prop :=
  (∀ (i : Instr) (s : State), ∃ t, exec i s = .next t ∧ t.response.isSome = true) ∧ (∀ s : State, ∃ t, step s = .next t)

/-- R103 (decision D23): a stopped block answers FATAL with zero buses to every request, legal or reserved, and nothing
changes. -/
def Obligations.StoppedBlockAnswersFatal : Prop :=
  ∀ s : State, s.fatal = true →
    (∀ i, exec i s = .next { s with response := some ⟨.fatal, 0, 0, 0⟩ }) ∧
    (∀ r rest, s.inputs = .request r :: rest →
      step s = .next { s with inputs := rest, response := some ⟨.fatal, 0, 0, 0⟩ })

/-- R104 (decision D16): a reserved word stops a running block with ILLEGAL_CMD and changes nothing else. -/
def Obligations.ReservedWordStopsTheBlock : Prop :=
  ∀ (s : State) (r : Request) (rest : List Input),
    s.inputs = .request r :: rest → s.fatal = false → r.wf = false →
    step s = .next { s with inputs := rest, fatal := true, fatalReason := .illegalCmd,
                            hostErrors := s.hostErrors ++ [⟨.error, .illegalCmd⟩],
                            response := some ⟨.fatal, 0, 0, 0⟩ }

/-- R58, R59 (decision D23): the host error output is driven once each time the block stops, and not otherwise; a
request never clears the stop. -/
def Obligations.HostErrorIsDrivenOncePerStop : Prop :=
  ∀ (s t : State) (r : Request) (rest : List Input), s.inputs = .request r :: rest → step s = .next t →
    (s.fatal = false ∧ t.fatal = true ∧ t.fatalReason ≠ .none ∧
      t.hostErrors = s.hostErrors ++ [⟨.error, t.fatalReason⟩]) ∨
    (t.fatal = s.fatal ∧ t.fatalReason = s.fatalReason ∧ t.hostErrors = s.hostErrors)

/-! ## Register File -/

/-- R121, R123: GETR reads the active view, GETRB the inactive bank, both through gpr_bank; nothing changes. GETRB of
r8 to r15 cannot be encoded. -/
def Obligations.GetrReadsTheActiveViewAndGetrbTheOther : Prop :=
  (∀ s : State, s.fatal = false →
    (∀ n : Fin 16, ReadsWord s (0x1000 + n.val) (.getr n)
      (if h : n.val < 8 then (if s.gprBank = false then s.gb0[n.val] else s.gb1[n.val]) else s.rh[n.val - 8])) ∧
    (∀ n : Fin 8, ReadsWord s (0x1200 + n.val) (.getrb n) (if s.gprBank = false then s.gb1[n.val] else s.gb0[n.val]))) ∧
  (∀ (n : Nat) (a : DWord) (b c : Word), 8 ≤ n → n < 0x100 → decode ⟨BitVec.ofNat 16 (0x1200 + n), a, b, c⟩ = none)

/-- R122: SETR writes exactly one physical word, the one of the active view; A[63:32] is ignored. -/
def Obligations.SetrWritesOneWordOfTheActiveView : Prop :=
  ∀ s : State, s.fatal = false → ∀ n : Fin 16,
    WritesWord s (0x1100 + n.val) (.setr n) (fun v =>
      if h : n.val < 8 then
        (if s.gprBank = false then { s with gb0 := s.gb0.set n.val v } else { s with gb1 := s.gb1.set n.val v })
      else { s with rh := s.rh.set (n.val - 8) v })

/-- R124: SETRB writes exactly one physical word, of the inactive bank; the active view is unchanged. -/
def Obligations.SetrbWritesOneWordOfTheInactiveBank : Prop :=
  ∀ s : State, s.fatal = false → ∀ n : Fin 8,
    WritesWord s (0x1300 + n.val) (.setrb n) (fun v =>
      if s.gprBank = false then { s with gb1 := s.gb1.set n.val v } else { s with gb0 := s.gb0.set n.val v })

/-- R81 for the general registers: a read returns the value of the most recent write to the same physical word, and no
other element of either view changes. -/
def Obligations.GeneralRegisterReadsTheLastWrite : Prop :=
  ∀ (s t : State) (n : Fin 16) (k : Fin 8) (v : Word), s.fatal = false →
    (exec (.setr n v) s = .next t →
      (∀ m, resultOf (exec (.getr m) t) = if m = n then some (zext64 v) else resultOf (exec (.getr m) s)) ∧
      (∀ m, resultOf (exec (.getrb m) t) = resultOf (exec (.getrb m) s))) ∧
    (exec (.setrb k v) s = .next t →
      (∀ m, resultOf (exec (.getrb m) t) = if m = k then some (zext64 v) else resultOf (exec (.getrb m) s)) ∧
      (∀ m, resultOf (exec (.getr m) t) = resultOf (exec (.getr m) s)))

/-- R127, R129, R131, R133, R135, R137, R139, R141: these GET.x return their register and change nothing. -/
def Obligations.GetScalarReturnsTheRegister : Prop :=
  ∀ s : State, s.fatal = false →
    ReadsWord s 0x1401 .getSsr s.ssr ∧ ReadsWord s 0x1402 .getSpc s.spc ∧ ReadsWord s 0x1403 .getSgr s.sgr ∧
    ReadsWord s 0x1404 .getDbr s.dbr ∧ ReadsWord s 0x1405 .getVbr s.vbr ∧ ReadsWord s 0x1406 .getPr s.pr ∧
    ReadsWord s 0x1407 .getFpul s.fpul ∧ ReadsWord s 0x1408 .getPc s.pc

/-- R125, R143, R149 and, for the reserved bits and the values after reset, R32, R43, R61 (decisions D7, D8, D17, D26):
GET.SR and GET.FPSCR return the raw registers, not the shadows; GET.EXPEVT returns the event-code latch, which has no
SET. -/
def Obligations.GetStatusReturnsTheRawRegister : Prop :=
  (∀ s : State, s.fatal = false →
    ReadsWord s 0x1400 .getSr s.sr ∧ ReadsWord s 0x1409 .getFpscr s.fpscr ∧ ReadsWord s 0x140E .getExpevt s.expevt ∧
    (ReservedClear s → s.sr &&& ~~~ s.params.srWmask = 0 ∧ s.fpscr &&& ~~~ s.params.fpscrWmask = 0)) ∧
  (∀ a b c, decode ⟨0x150E, a, b, c⟩ = none) ∧
  Answers (exec .getSr State.reset) State.reset 0x00000000700000F0 ∧
  Answers (exec .getFpscr State.reset) State.reset 0x0000000000040001

/-- R128, R130, R132, R134, R136, R138, R140, R142: these SET.x store all 32 bits of A[31:0] in their register, with no
mask and no check, and change nothing else. -/
def Obligations.SetScalarStoresTheOperand : Prop :=
  ∀ s : State, s.fatal = false →
    WritesWord s 0x1501 .setSsr (fun v => { s with ssr := v }) ∧
    WritesWord s 0x1502 .setSpc (fun v => { s with spc := v }) ∧
    WritesWord s 0x1503 .setSgr (fun v => { s with sgr := v }) ∧
    WritesWord s 0x1504 .setDbr (fun v => { s with dbr := v }) ∧
    WritesWord s 0x1505 .setVbr (fun v => { s with vbr := v }) ∧
    WritesWord s 0x1506 .setPr (fun v => { s with pr := v }) ∧
    WritesWord s 0x1507 .setFpul (fun v => { s with fpul := v }) ∧
    WritesWord s 0x1508 .setPc (fun v => { s with pc := v })

/-- R126, R144: SET.SR and SET.FPSCR store the operand through the write mask and change nothing else: no bank, no
mode and no shadow follows. -/
def Obligations.SetStatusIsARawMaskedWrite : Prop :=
  ∀ s : State, s.fatal = false →
    WritesWord s 0x1500 .setSr (fun v => { s with sr := v &&& s.params.srWmask }) ∧
    WritesWord s 0x1509 .setFpscr (fun v => { s with fpscr := v &&& s.params.fpscrWmask })

/-- R145, R147, R150: MACH is MAC[63:32], MACL is MAC[31:0], GETMAC returns all of MAC. -/
def Obligations.MacReadsItsHalves : Prop :=
  ∀ s : State, s.fatal = false →
    ReadsWord s 0x140A .getMach (s.mac.extractLsb' 32 32) ∧ ReadsWord s 0x140B .getMacl (s.mac.extractLsb' 0 32) ∧
    Selects 0x1600 (fun _ _ _ => .getmac) ∧ Answers (exec .getmac s) s s.mac

/-- R146, R148, R151: SET.MACH and SET.MACL replace one half and keep the other, SETMAC replaces both. -/
def Obligations.MacWritesItsHalves : Prop :=
  ∀ s : State, s.fatal = false →
    WritesWord s 0x150A .setMach (fun v => { s with mac := v ++ s.mac.extractLsb' 0 32 }) ∧
    WritesWord s 0x150B .setMacl (fun v => { s with mac := s.mac.extractLsb' 32 32 ++ v }) ∧
    Selects 0x1700 (fun a _ _ => .setmac a) ∧ ∀ v, Answers (exec (.setmac v) s) { s with mac := v } 0

/-! ## Debug port -/

/-- R152 (decision D14): DBG.PEEK returns the word its identifier names at the time of the request, and changes nothing. -/
def Obligations.PeekReadsTheNamedWord : Prop :=
  ∀ s : State, s.fatal = false →
    (∀ n : Fin 16, ReadsWord s (0x1800 + n.val) (.dbgPeekR n) (s.readR n)) ∧
    (∀ n : Fin 8, ReadsWord s (0x1810 + n.val) (.dbgPeekRBank n) (s.readRBank n)) ∧
    (∀ id : Fin 8, ReadsWord s (0x1820 + id.val) (.dbgPeekScalarLo id)
      (#v[s.sr, s.ssr, s.spc, s.sgr, s.dbr, s.vbr, s.pr, s.fpul][id.val])) ∧
    (∀ id : Fin 4, ReadsWord s (0x1828 + id.val) (.dbgPeekScalarHi id)
      (#v[s.pc, s.fpscr, s.mac.extractLsb' 32 32, s.mac.extractLsb' 0 32][id.val])) ∧
    (∀ id : Fin 2, ReadsWord s (0x182C + id.val) (.dbgPeekShadow id) (#v[s.oldSr, s.oldFpscr][id.val])) ∧
    ReadsWord s 0x182E .dbgPeekExpevt s.expevt ∧
    (∀ n : Fin 16, ReadsWord s (0x1840 + n.val) (.dbgPeekFr n) (s.readFr n)) ∧
    (∀ n : Fin 16, ReadsWord s (0x1850 + n.val) (.dbgPeekXf n) (s.readXf n))

/-- R153 (decisions D14, D36): DBG.POKE writes the word its identifier names and nothing else, SR and FPSCR raw through
their masks. -/
def Obligations.PokeWritesTheNamedWord : Prop :=
  ∀ s : State, s.fatal = false →
    (∀ n : Fin 16, WritesWord s (0x1900 + n.val) (.dbgPokeR n) (s.writeR n)) ∧
    (∀ n : Fin 8, WritesWord s (0x1910 + n.val) (.dbgPokeRBank n) (s.writeRBank n)) ∧
    (∀ id : Fin 8, WritesWord s (0x1920 + id.val) (.dbgPokeScalarLo id) (fun v =>
      #v[{ s with sr := v &&& s.params.srWmask }, { s with ssr := v }, { s with spc := v }, { s with sgr := v },
         { s with dbr := v }, { s with vbr := v }, { s with pr := v }, { s with fpul := v }][id.val])) ∧
    (∀ id : Fin 4, WritesWord s (0x1928 + id.val) (.dbgPokeScalarHi id) (fun v =>
      #v[{ s with pc := v }, { s with fpscr := v &&& s.params.fpscrWmask },
         { s with mac := v ++ s.mac.extractLsb' 0 32 }, { s with mac := s.mac.extractLsb' 32 32 ++ v }][id.val])) ∧
    (∀ n : Fin 16, WritesWord s (0x1940 + n.val) (.dbgPokeFr n) (s.writeFr n)) ∧
    (∀ n : Fin 16, WritesWord s (0x1950 + n.val) (.dbgPokeXf n) (s.writeXf n))

/-- R152, R153 "as GETR", "as SETR" (decision D14): the debug port does to a word what its accessor does, in every
state, stopped or not. -/
def Obligations.DebugPortIsTheAccessors : Prop :=
  ∀ (s : State) (v : Word),
    (∀ n, exec (.dbgPeekR n) s = exec (.getr n) s ∧ exec (.dbgPokeR n v) s = exec (.setr n v) s) ∧
    (∀ n, exec (.dbgPeekRBank n) s = exec (.getrb n) s ∧ exec (.dbgPokeRBank n v) s = exec (.setrb n v) s) ∧
    (∀ id : Fin 8,
      exec (.dbgPeekScalarLo id) s =
        exec (#v[.getSr, .getSsr, .getSpc, .getSgr, .getDbr, .getVbr, .getPr, .getFpul][id.val]) s ∧
      exec (.dbgPokeScalarLo id v) s =
        exec (#v[.setSr v, .setSsr v, .setSpc v, .setSgr v, .setDbr v, .setVbr v, .setPr v, .setFpul v][id.val]) s) ∧
    (∀ id : Fin 4,
      exec (.dbgPeekScalarHi id) s = exec (#v[.getPc, .getFpscr, .getMach, .getMacl][id.val]) s ∧
      exec (.dbgPokeScalarHi id v) s = exec (#v[.setPc v, .setFpscr v, .setMach v, .setMacl v][id.val]) s) ∧
    exec .dbgPeekExpevt s = exec .getExpevt s ∧
    (∀ n, exec (.dbgPeekFr n) s = exec (.getfr n) s ∧ exec (.dbgPokeFr n v) s = exec (.setfr n v) s) ∧
    (∀ n, exec (.dbgPeekXf n) s = exec (.getxf n) s ∧ exec (.dbgPokeXf n v) s = exec (.setxf n v) s)

/-! ## Floating-Point View Model -/

/-- R161, R163: GETFR reads slot n of the bank fp_bank selects, GETXF of the other; nothing changes. -/
def Obligations.GetfrReadsItsBankAndGetxfTheOther : Prop :=
  ∀ s : State, s.fatal = false → ∀ n : Fin 16,
    ReadsWord s (0x2000 + n.val) (.getfr n) (if s.fpBank = false then s.fb0[n.val] else s.fb1[n.val]) ∧
    ReadsWord s (0x2200 + n.val) (.getxf n) (if s.fpBank = false then s.fb1[n.val] else s.fb0[n.val])

/-- R162, R164: SETFR and SETXF store the pattern unchanged in one slot of one bank, which is half of one double: the
high half for an even slot, the low half for an odd one; the other half and the other bank keep their values. -/
def Obligations.SetfrWritesOneSlotOfItsBank : Prop :=
  ∀ s : State, s.fatal = false →
    (∀ n : Fin 16,
      WritesWord s (0x2100 + n.val) (.setfr n) (fun v =>
        if s.fpBank = false then { s with fb0 := s.fb0.set n.val v } else { s with fb1 := s.fb1.set n.val v }) ∧
      WritesWord s (0x2300 + n.val) (.setxf n) (fun v =>
        if s.fpBank = false then { s with fb1 := s.fb1.set n.val v } else { s with fb0 := s.fb0.set n.val v })) ∧
    (∀ (n m : Fin 8) (v : Word) (old : DWord),
      resultOf (exec (.getdr m) s) = some old →
        resultOf (runAll [.setfr (evenSlot n) v, .getdr m] s) = some (if m = n then joinWords v (loWord old) else old) ∧
        resultOf (runAll [.setfr (oddSlot n) v, .getdr m] s) = some (if m = n then joinWords (hiWord old) v else old)) ∧
    (∀ (n m : Fin 8) (v : Word) (old : DWord),
      resultOf (exec (.getxd m) s) = some old →
        resultOf (runAll [.setxf (evenSlot n) v, .getxd m] s) = some (if m = n then joinWords v (loWord old) else old) ∧
        resultOf (runAll [.setxf (oddSlot n) v, .getxd m] s) = some (if m = n then joinWords (hiWord old) v else old))

/-- R165, R167: a double is slot 2n in bits 63:32 and slot 2n+1 in bits 31:0 of its set, reinterpreted; an index
outside 0 to 7 cannot be encoded. -/
def Obligations.GetdrJoinsTheEvenAndTheOddSlot : Prop :=
  (∀ s : State, s.fatal = false → ∀ n : Fin 8,
    Selects (0x2400 + n.val) (fun _ _ _ => .getdr n) ∧ Selects (0x2600 + n.val) (fun _ _ _ => .getxd n) ∧
    Answers (exec (.getdr n) s) s
      (if s.fpBank = false then s.fb0[2 * n.val] ++ s.fb0[2 * n.val + 1] else s.fb1[2 * n.val] ++ s.fb1[2 * n.val + 1]) ∧
    Answers (exec (.getxd n) s) s
      (if s.fpBank = false then s.fb1[2 * n.val] ++ s.fb1[2 * n.val + 1] else s.fb0[2 * n.val] ++ s.fb0[2 * n.val + 1])) ∧
  (∀ (n : Nat) (a : DWord) (b c : Word), 8 ≤ n → n < 0x100 →
    decode ⟨BitVec.ofNat 16 (0x2400 + n), a, b, c⟩ = none ∧ decode ⟨BitVec.ofNat 16 (0x2600 + n), a, b, c⟩ = none)

/-- R166, R168: a write of a double reverses the mapping, both slots in one step, and changes nothing else. -/
def Obligations.SetdrSplitsIntoTheEvenAndTheOddSlot : Prop :=
  ∀ s : State, s.fatal = false → ∀ n : Fin 8,
    Selects (0x2500 + n.val) (fun a _ _ => .setdr n a) ∧ Selects (0x2700 + n.val) (fun a _ _ => .setxd n a) ∧
    ∀ v : DWord,
      Answers (exec (.setdr n v) s)
        (if s.fpBank = false
          then { s with fb0 := (s.fb0.set (2 * n.val) (v.extractLsb' 32 32)).set (2 * n.val + 1) (v.extractLsb' 0 32) }
          else { s with fb1 := (s.fb1.set (2 * n.val) (v.extractLsb' 32 32)).set (2 * n.val + 1) (v.extractLsb' 0 32) })
        0 ∧
      Answers (exec (.setxd n v) s)
        (if s.fpBank = false
          then { s with fb1 := (s.fb1.set (2 * n.val) (v.extractLsb' 32 32)).set (2 * n.val + 1) (v.extractLsb' 0 32) }
          else { s with fb0 := (s.fb0.set (2 * n.val) (v.extractLsb' 32 32)).set (2 * n.val + 1) (v.extractLsb' 0 32) })
        0

/-- R171, the four laws of the double views over both sets (laws 3 and 4 the spec derives from R165 and R166): round
trip, pairing, split, independence. -/
def Obligations.DoubleViewLaws : Prop :=
  ∀ (s : State) (n : Fin 8) (v : DWord) (a b : Word), s.fatal = false →
    (resultOf (runAll [.setdr n v, .getdr n] s) = some v ∧ resultOf (runAll [.setxd n v, .getxd n] s) = some v) ∧
    (resultOf (runAll [.setfr (evenSlot n) a, .setfr (oddSlot n) b, .getdr n] s) = some (a ++ b) ∧
      resultOf (runAll [.setxf (evenSlot n) a, .setxf (oddSlot n) b, .getxd n] s) = some (a ++ b)) ∧
    (resultOf (runAll [.setdr n v, .getfr (evenSlot n)] s) = some ((v.extractLsb' 32 32).setWidth 64) ∧
      resultOf (runAll [.setdr n v, .getfr (oddSlot n)] s) = some ((v.extractLsb' 0 32).setWidth 64) ∧
      resultOf (runAll [.setxd n v, .getxf (evenSlot n)] s) = some ((v.extractLsb' 32 32).setWidth 64) ∧
      resultOf (runAll [.setxd n v, .getxf (oddSlot n)] s) = some ((v.extractLsb' 0 32).setWidth 64)) ∧
    (∀ m, m ≠ evenSlot n → m ≠ oddSlot n →
      resultOf (runAll [.setdr n v, .getfr m] s) = resultOf (exec (.getfr m) s) ∧
      resultOf (runAll [.setxd n v, .getxf m] s) = resultOf (exec (.getxf m) s)) ∧
    (∀ m, resultOf (runAll [.setdr n v, .getxf m] s) = resultOf (exec (.getxf m) s) ∧
      resultOf (runAll [.setxd n v, .getfr m] s) = resultOf (exec (.getfr m) s))

/-- R160: the ten operations of this family depend on the floating-point storage and fp_bank (and on the NaN hooks)
alone: in two running states that agree on those, whatever FPSCR, SR and the modes are, each gives the same answer and
the same storage. -/
def Obligations.FpViewsDependOnTheirStorageAlone : Prop :=
  ∀ (s s' : State), s.fatal = false → s'.fatal = false → s.fb0 = s'.fb0 → s.fb1 = s'.fb1 → s.fpBank = s'.fpBank →
    s.params.fixNan32 = s'.params.fixNan32 → s.params.fixNan64 = s'.params.fixNan64 →
    ∀ (n : Fin 16) (k : Fin 8) (v : Word) (w : DWord),
    ∀ i ∈ ([.getfr n, .setfr n v, .getxf n, .setxf n v, .getdr k, .setdr k w, .getxd k, .setxd k w,
            .fixnan v, .fixnan64 w] : List Instr),
      ∃ t t', exec i s = .next t ∧ exec i s' = .next t' ∧ t.response = t'.response ∧ t.fb0 = t'.fb0 ∧ t.fb1 = t'.fb1 ∧
        t.response.map (·.status) = some .ok

/-- R169, R170 (decision D13): FIXNAN and FIXNAN64 answer the configuration function of their operand, touching no
state; with the default hook that function is the identity, which the spec flags as a known deviation
(notes/assumptions/3.md). -/
def Obligations.FixnanIsTheConfiguredFunction : Prop :=
  ∀ s : State, s.fatal = false →
    Selects 0x2800 (fun a _ _ => .fixnan (a.extractLsb' 0 32)) ∧ Selects 0x2900 (fun a _ _ => .fixnan64 a) ∧
    (∀ v, Answers (exec (.fixnan v) s) s (zext64 (fixNan32 s.params.fixNan32 v))) ∧
    (∀ v, Answers (exec (.fixnan64 v) s) s (fixNan64 s.params.fixNan64 v)) ∧
    (s.params.fixNan32 = .passThrough → ∀ v, Answers (exec (.fixnan v) s) s (zext64 v)) ∧
    (s.params.fixNan64 = .passThrough → ∀ v, Answers (exec (.fixnan64 v) s) s v)

/-! ## Status/Control Flags -/

/-- R181 (decisions D6, D10, D11): UPDSR recomputes gpr_bank, sr_mode and old_sr from the raw SR and says whether the
bank changed; it writes nothing else, SR included. -/
def Obligations.UpdsrRecomputesTheDerivedState : Prop :=
  ∀ s : State, s.fatal = false →
    Selects 0x3000 (fun _ _ _ => .updsr) ∧
    Answers (exec .updsr s)
      { s with
        gprBank := bankOf s.params s.sr
        srMode :=
          { bank := bankOf s.params s.sr
            md := s.sr.getLsbD s.params.srMd.val
            bl := s.sr.getLsbD s.params.srBl.val
            imask := s.sr.extractLsb' s.params.srImask.val 4
            fd := s.sr.getLsbD s.params.srFd.val }
        oldSr := s.sr }
      (if bankOf s.params s.sr = bankOf s.params s.oldSr then 0 else 1) ∧
    bankOf s.params s.sr =
      (if s.params.rbGatedByMd = true then s.sr.getLsbD s.params.srRb.val && s.sr.getLsbD s.params.srMd.val
        else s.sr.getLsbD s.params.srRb.val)

/-- R182 (derived in the spec from R181, R23 to R25): when UPDSR returns 1 the two banks have changed places under GETR
and GETRB, when it returns 0 every read is unchanged; r8 to r15 and the physical words never change. -/
def Obligations.UpdsrSwapsTheBanksWithoutDataLoss : Prop :=
  ∀ (s t : State), s.fatal = false → Derived s → exec .updsr s = .next t →
    (resultOf (exec .updsr s) = some 0 ∨ resultOf (exec .updsr s) = some 1) ∧
    t.gb0 = s.gb0 ∧ t.gb1 = s.gb1 ∧ t.rh = s.rh ∧
    (resultOf (exec .updsr s) = some 1 → ∀ (n : Fin 8) (m : Fin 16), m.val = n.val →
      resultOf (exec (.getr m) t) = resultOf (exec (.getrb n) s) ∧
      resultOf (exec (.getrb n) t) = resultOf (exec (.getr m) s)) ∧
    (resultOf (exec .updsr s) = some 0 → ∀ (n : Fin 8) (m : Fin 16),
      resultOf (exec (.getr m) t) = resultOf (exec (.getr m) s) ∧
      resultOf (exec (.getrb n) t) = resultOf (exec (.getrb n) s)) ∧
    (∀ m : Fin 16, 8 ≤ m.val → resultOf (exec (.getr m) t) = resultOf (exec (.getr m) s))

/-- R183 (decisions D8, D10, D11): UPDFPSCR recomputes fp_bank, fp_mode and old_fpscr from the raw FPSCR and drives
nothing else. -/
def Obligations.UpdfpscrRecomputesTheDerivedState : Prop :=
  ∀ s : State, s.fatal = false →
    Selects 0x3100 (fun _ _ _ => .updfpscr) ∧
    Answers (exec .updfpscr s)
      { s with
        fpBank := s.fpscr.getLsbD s.params.fpscrFr.val
        fpMode :=
          { bank := s.fpscr.getLsbD s.params.fpscrFr.val
            rm := s.fpscr.extractLsb' s.params.fpscrRm.val 2
            dn := s.fpscr.getLsbD s.params.fpscrDn.val
            pr := s.fpscr.getLsbD s.params.fpscrPr.val
            sz := s.fpscr.getLsbD s.params.fpscrSz.val }
        oldFpscr := s.fpscr }
      0

/-- R49, R183 (decisions D8 to D10): when the FR bit differs from fp_bank, UPDFPSCR makes fr and xf, and dr and xd,
change places; no physical word is written. -/
def Obligations.UpdfpscrExchangesTheViews : Prop :=
  ∀ (s t : State), s.fatal = false → exec .updfpscr s = .next t →
    t.fb0 = s.fb0 ∧ t.fb1 = s.fb1 ∧
    (fpbankOf s.params s.fpscr ≠ s.fpBank →
      (∀ n, resultOf (exec (.getfr n) t) = resultOf (exec (.getxf n) s) ∧
        resultOf (exec (.getxf n) t) = resultOf (exec (.getfr n) s)) ∧
      (∀ n, resultOf (exec (.getdr n) t) = resultOf (exec (.getxd n) s) ∧
        resultOf (exec (.getxd n) t) = resultOf (exec (.getdr n) s))) ∧
    (fpbankOf s.params s.fpscr = s.fpBank →
      (∀ n, resultOf (exec (.getfr n) t) = resultOf (exec (.getfr n) s) ∧
        resultOf (exec (.getxf n) t) = resultOf (exec (.getxf n) s)))

/-- R184 (derived in the spec from R181, R183): a second UPDFPSCR or UPDSR changes nothing, and the second UPDSR
returns 0. -/
def Obligations.UpdatersAreIdempotent : Prop :=
  ∀ s : State, s.fatal = false →
    runAll [.updfpscr, .updfpscr] s = exec .updfpscr s ∧
    (∃ t, exec .updsr s = .next t ∧ Answers (runAll [.updsr, .updsr] s) t 0)

/-- R29, R41, R82, R260, R261: a raw write of SR or FPSCR moves no view until the update; after SET.SR, GET.SR shows
the new value and GETR still the old bank's word. -/
def Obligations.RawWritesLeaveTheViewsStale : Prop :=
  ∀ (s : State) (v : Word), s.fatal = false →
    (∀ n, resultOf (runAll [.setSr v, .getr n] s) = resultOf (exec (.getr n) s)) ∧
    (∀ n, resultOf (runAll [.setSr v, .getrb n] s) = resultOf (exec (.getrb n) s)) ∧
    resultOf (runAll [.setSr v, .getSr] s) = some ((v &&& s.params.srWmask).setWidth 64) ∧
    (∀ n, resultOf (runAll [.setFpscr v, .getfr n] s) = resultOf (exec (.getfr n) s)) ∧
    (∀ n, resultOf (runAll [.setFpscr v, .getxf n] s) = resultOf (exec (.getxf n) s)) ∧
    resultOf (runAll [.setFpscr v, .getFpscr] s) = some ((v &&& s.params.fpscrWmask).setWidth 64)

/-- R185, R186 (decision D12): SETFSR drives the rounding mode and the denormal bit of the raw FPSCR, and does nothing
in the stub form. -/
def Obligations.SetfsrDrivesTheHostControl : Prop :=
  ∀ s : State, s.fatal = false →
    Selects 0x3200 (fun _ _ _ => .setfsr) ∧
    (s.params.hostFpuCtl = true → Answers (exec .setfsr s)
      { s with hostFpctl := some ⟨s.fpscr.extractLsb' s.params.fpscrRm.val 2, s.fpscr.getLsbD s.params.fpscrDn.val⟩ } 0) ∧
    (s.params.hostFpuCtl = false → Answers (exec .setfsr s) s 0)

/-! ## Exception Controller -/

/-- R197 (decision D23): DOEXC of an MMU-required event without MMU support answers FAIL and changes nothing, blocked
or not, pending or not. -/
def Obligations.DoexcWithoutMmuFailsAtomically : Prop :=
  ∀ (s : State) (pc evt vec : Word), s.fatal = false → evt ∈ s.params.mmuRequired → s.fullMMU = false →
    exec (.doexc pc evt vec) s = .next { s with response := some ⟨.fail, 0, 0, 0⟩ }

/-- R198 (decision D22): a nested exception that is not refused stops the block with NESTED and changes nothing else. -/
def Obligations.DoexcNestedIsFatal : Prop :=
  ∀ (s : State) (pc evt vec : Word), s.fatal = false → (evt ∉ s.params.mmuRequired ∨ s.fullMMU = true) →
    (s.excState = .exceptionPending ∨
      (s.params.nestedCheckBl = true ∧ s.sr.getLsbD s.params.srBl.val = true ∧ evt ∉ s.params.resetEvents)) →
    exec (.doexc pc evt vec) s = .next
      { s with fatal := true, fatalReason := .nested, hostErrors := s.hostErrors ++ [⟨.error, .nested⟩],
               response := some ⟨.fatal, 0, 0, 0⟩ }

/-- R196 (decisions D17 to D22): a DOEXC that is neither refused nor nested saves SR, the given pc and r15, latches the
event code, sets the entry bits of SR, recomputes the derived state, goes to the handler, and changes nothing else. -/
def Obligations.DoexcDelivers : Prop :=
  ∀ (s : State) (pc evt vec : Word), s.fatal = false → (evt ∉ s.params.mmuRequired ∨ s.fullMMU = true) →
    s.excState = .normal →
    (s.params.nestedCheckBl = false ∨ s.sr.getLsbD s.params.srBl.val = false ∨ evt ∈ s.params.resetEvents) →
    Selects 0x4000 (fun a b c => .doexc (a.extractLsb' 0 32) b c) ∧
    Answers (exec (.doexc pc evt vec) s)
      { s with
        ssr := s.sr
        spc := pc
        sgr := if s.params.excSavesSgr = true then s.rh[7] else s.sgr
        expevt := evt
        sr := (s.sr ||| s.params.excSrSet) &&& s.params.srWmask
        gprBank := bankOf s.params ((s.sr ||| s.params.excSrSet) &&& s.params.srWmask)
        srMode := srDecode s.params ((s.sr ||| s.params.excSrSet) &&& s.params.srWmask)
        oldSr := (s.sr ||| s.params.excSrSet) &&& s.params.srWmask
        pc := if evt ∈ s.params.resetEvents then s.params.resetVector else s.vbr + vec }
      0

/-- R222, R196 with the default parameters (decision D19, "from general knowledge, not in source"): entry sets MD, RB
and BL and keeps every other bit of SR, bank 1 becomes active, and a program interrupted in bank 0 is found whole in
r_bank, with r8 to r15 shared. -/
def Obligations.EntrySwitchesToTheHandlersBank : Prop :=
  ∀ (s t : State) (pc evt vec : Word), s.params = Params.default → ReservedClear s → s.fatal = false →
    exec (.doexc pc evt vec) s = .next t → t.response = some ⟨.ok, 0, 0, 0⟩ →
    t.gprBank = true ∧ t.srMode.md = true ∧ t.srMode.bl = true ∧
    (∀ k : Fin 32, k ≠ 28 → k ≠ 29 → k ≠ 30 → t.sr.getLsbD k.val = s.sr.getLsbD k.val) ∧
    t.sr.getLsbD 28 = true ∧ t.sr.getLsbD 29 = true ∧ t.sr.getLsbD 30 = true ∧
    (s.gprBank = false → ∀ (n : Fin 8) (m : Fin 16), m.val = n.val →
      resultOf (exec (.getrb n) t) = resultOf (exec (.getr m) s)) ∧
    (∀ m : Fin 16, 8 ≤ m.val → resultOf (exec (.getr m) t) = resultOf (exec (.getr m) s))

/-- R199, with R200 (decision D23) for the stop and the parameter P_ILEN of R5 (decision D2) for the constant: with MMU
support RAISEFPUDIS answers THROWN with the address P_ILEN (2 by default) before PC, event 0x800, offset 0x100, and
changes nothing, whatever SR.FD is; without, it stops the block with MMU_CONFIG. -/
def Obligations.RaisefpudisThrowsTheTriple : Prop :=
  Selects 0x4100 (fun _ _ _ => .raisefpudis) ∧
  ∀ s : State, s.fatal = false →
    (s.fullMMU = true → exec .raisefpudis s = .next
      { s with response := some ⟨.thrown, (s.pc - s.params.ilen).setWidth 64, 0x800, 0x100⟩ }) ∧
    (s.fullMMU = true → s.params.ilen = 2 → resultOf (exec .raisefpudis s) = some ((s.pc - 2).setWidth 64)) ∧
    (s.fullMMU = false → exec .raisefpudis s = .next
      { s with fatal := true, fatalReason := .mmuConfig, hostErrors := s.hostErrors ++ [⟨.error, .mmuConfig⟩],
               response := some ⟨.fatal, 0, 0, 0⟩ })

/-- R201 (decision D24): ADJSLOT answers the address P_ILEN (2 by default) below, the remapped code and the same
offset, whatever the state of a running block, and changes nothing. -/
def Obligations.AdjslotAnswersTheAdjustedTriple : Prop :=
  Selects 0x4200 (fun a b c => .adjslot (a.extractLsb' 0 32) b c) ∧
  ∀ (s : State) (epc evt vec : Word), s.fatal = false →
    exec (.adjslot epc evt vec) s = .next
      { s with response := some ⟨.ok, (epc - s.params.ilen).setWidth 64,
                                 if evt = 0x800 then 0x820 else if evt = 0x180 then 0x1A0 else evt, vec⟩ }

/-- R202: the remap table, as ADJSLOT shows it on QB: two codes change, every other passes through unmodified. -/
def Obligations.SlotRemapIsTheFixedTable : Prop :=
  ∀ (s t : State) (epc evt vec : Word) (r : Response), s.fatal = false →
    exec (.adjslot epc evt vec) s = .next t → t.response = some r →
    (evt = 0x00000800 → r.qb = 0x00000820) ∧ (evt = 0x00000180 → r.qb = 0x000001A0) ∧
    (evt ≠ 0x00000800 → evt ≠ 0x00000180 → r.qb = evt)

/-- R203, R106 (derived in the spec from R196, R199, R201; decision D30): the FPU-disable exception of the instruction
at `i`, PC already past it. Outside a delay slot SPC is `i` and the code 0x800; inside, SPC is the branch before it and
the code 0x820; either way control goes to VBR + 0x100 and SSR holds the old SR. -/
def Obligations.FpuDisableProtocol : Prop :=
  ∀ (s : State) (i : Word), s.params = Params.default → s.fatal = false → s.fullMMU = true → s.excState = .normal →
    s.sr.getLsbD 28 = false → s.pc = i + 2 →
    (∃ t, fpudis s = .next t ∧ t.spc = i ∧ t.expevt = 0x800 ∧ t.pc = s.vbr + 0x100 ∧ t.ssr = s.sr ∧ t.fatal = false) ∧
    (∃ t, fpudisSlot s = .next t ∧ t.spc = i - 2 ∧ t.expevt = 0x820 ∧ t.pc = s.vbr + 0x100 ∧ t.ssr = s.sr ∧
      t.fatal = false)

/-- R225, R106 (decision D30): the sequence RTE restores SR from SSR through the write mask, switches the bank back
with UPDSR, resumes at SPC, and changes nothing else but the response. -/
def Obligations.RteReturnsFromTheHandler : Prop :=
  ∀ s : State, s.fatal = false →
    Answers (rte s)
      { s with
        sr := s.ssr &&& s.params.srWmask
        gprBank := bankOf s.params (s.ssr &&& s.params.srWmask)
        srMode := srDecode s.params (s.ssr &&& s.params.srWmask)
        oldSr := s.ssr &&& s.params.srWmask
        pc := s.spc } 0

/-- R222, R225 (decisions D19, D30): RTE undoes a delivery. From a state that owes no update, with its reserved bits
clear, delivering an exception and returning leaves SR, the bank, sr_mode, every general register and everything else
but SSR, SPC, SGR, EXPEVT and the response as they were, with PC at the saved address. -/
def Obligations.ReturnUndoesDelivery : Prop :=
  ∀ (s t : State) (pc evt vec : Word), Derived s → ReservedClear s → s.oldSr = s.sr → s.fatal = false →
    exec (.doexc pc evt vec) s = .next t → t.response = some ⟨.ok, 0, 0, 0⟩ →
    ∃ u, rte t = .next u ∧
      u = { s with pc := pc, ssr := u.ssr, spc := u.spc, sgr := u.sgr, expevt := u.expevt, response := u.response }

/-- R106 (decision D33): LDSR leaves SR and its derived state together; LDFPSCR does so for FPSCR and drives the host
control; FRCHG and FSCHG toggle one bit of FPSCR and leave its derived state with it. -/
def Obligations.LoadAndTogglePseudoOperations : Prop :=
  ∀ (s : State) (v : Word), s.fatal = false →
    (∃ t, ldsr v s = .next t ∧ t.sr = v &&& s.params.srWmask ∧ t.oldSr = t.sr ∧ t.gprBank = bankOf s.params t.sr ∧
      t.srMode = srDecode s.params t.sr) ∧
    (∃ t, ldfpscr v s = .next t ∧ t.fpscr = v &&& s.params.fpscrWmask ∧ t.oldFpscr = t.fpscr ∧
      t.fpBank = fpbankOf s.params t.fpscr ∧ t.fpMode = fpscrDecode s.params t.fpscr ∧
      t.hostFpctl = if s.params.hostFpuCtl = true then some (hostFpctlOf s.params t.fpscr) else s.hostFpctl) ∧
    (∃ t, frchg s = .next t ∧ t.fpscr = (s.fpscr ^^^ 0x00200000) &&& s.params.fpscrWmask ∧
      t.oldFpscr = t.fpscr ∧ t.fpBank = fpbankOf s.params t.fpscr ∧ t.fpMode = fpscrDecode s.params t.fpscr ∧
      t.fb0 = s.fb0 ∧ t.fb1 = s.fb1) ∧
    (∃ t, fschg s = .next t ∧ t.fpscr = (s.fpscr ^^^ 0x00100000) &&& s.params.fpscrWmask ∧
      t.oldFpscr = t.fpscr ∧ t.fpBank = fpbankOf s.params t.fpscr ∧ t.fpMode = fpscrDecode s.params t.fpscr)

/-! ## The whole machine -/

/-- R91, R160, R195: only RAISEFPUDIS answers THROWN, only DOEXC answers FAIL, and a running block answers FATAL only
to those two. -/
def Obligations.StatusesBelongToTheirOperations : Prop :=
  ∀ (s : State) (i : Instr), s.fatal = false →
    (statusOf (exec i s) = some .thrown → i = .raisefpudis) ∧
    (statusOf (exec i s) = some .fail → ∃ pc evt vec, i = .doexc pc evt vec) ∧
    (statusOf (exec i s) = some .fatal → i = .raisefpudis ∨ ∃ pc evt vec, i = .doexc pc evt vec)

/-- R25: gpr_bank changes only in UPDSR, in DOEXC and at reset, never at the write of SR; and outside reset a change
moves no data: r[0..7] shows what r_bank[0..7] showed and the reverse, RH is untouched. -/
def Obligations.OnlyUpdsrDoexcAndResetSwitchTheBank : Prop :=
  ∀ (s t : State), step s = .next t → t.gprBank ≠ s.gprBank →
    (∃ m rest, s.inputs = .reset m :: rest) ∨
    ((∃ r rest, s.inputs = .request r :: rest ∧
        (decode r = some .updsr ∨ ∃ pc evt vec, decode r = some (.doexc pc evt vec))) ∧
      t.gb0 = s.gb0 ∧ t.gb1 = s.gb1 ∧ t.rh = s.rh ∧
      (∀ (n : Fin 8) (m : Fin 16), m.val = n.val → t.readR m = s.readRBank n ∧ t.readRBank n = s.readR m) ∧
      (∀ m : Fin 16, 8 ≤ m.val → t.readR m = s.readR m))

/-- R205, R27 (derived in the spec from R196, R201, R138, R142): PC changes only by SET.PC and DBG.POKE 0x28, which
store the operand, by a DOEXC, which stores the handler address, and at reset. -/
def Obligations.OnlySetPcDoexcAndResetChangePc : Prop :=
  ∀ (s t : State), step s = .next t → t.pc ≠ s.pc →
    (∃ m rest, s.inputs = .reset m :: rest ∧ t.pc = s.params.resetVector) ∨
    (∃ r rest, s.inputs = .request r :: rest ∧
      ((∃ v, (decode r = some (.setPc v) ∨ decode r = some (.dbgPokeScalarHi 0 v)) ∧ t.pc = v) ∨
       (∃ pc evt vec, decode r = some (.doexc pc evt vec) ∧
         t.pc = if evt ∈ s.params.resetEvents then s.params.resetVector else s.vbr + vec)))

/-- R44, R46, R55, R153 (decisions D17, D36): the shadows are written only by the updaters, DOEXC and reset, EXPEVT
only by a delivered DOEXC and reset: no write from outside can forge one. -/
def Obligations.ShadowsAndExpevtCannotBeForged : Prop :=
  ∀ (s t : State) (i : Instr), exec i s = .next t →
    (t.oldSr ≠ s.oldSr → (i = .updsr ∧ t.oldSr = s.sr) ∨ ((∃ pc evt vec, i = .doexc pc evt vec) ∧ t.oldSr = t.sr)) ∧
    (t.oldFpscr ≠ s.oldFpscr → i = .updfpscr ∧ t.oldFpscr = s.fpscr) ∧
    (t.expevt ≠ s.expevt → ∃ pc vec, i = .doexc pc t.expevt vec)

/-- R254 (decision D26): between two resets parameters and FullMMU are constant. That the parameters survive a reset
too, and that the reset input carries FullMMU, is the model's choice (notes/assumptions/9.md). -/
def Obligations.ConfigurationIsConstantBetweenResets : Prop :=
  ∀ (s t : State), step s = .next t →
    t.params = s.params ∧ ((∃ m rest, s.inputs = .reset m :: rest ∧ t.fullMMU = m) ∨ t.fullMMU = s.fullMMU)

/-! ## Reset and invariants -/

/-- R251 (decisions D26, D27): the reset input gives every listed piece of state its value and clears the stop; of the
unspecified words nothing is said. The inputs still to come, the parameters and the record of what was driven on the
host error output stay (the model's choice, notes/assumptions/8.md, 9.md). -/
def Obligations.ResetInputGivesTheStatedValues : Prop :=
  ∀ (s : State) (m : Bool) (rest : List Input), s.inputs = .reset m :: rest →
    ∃ t, step s = .next t ∧
      t.sr = s.params.resetSr ∧ t.fpscr = s.params.resetFpscr ∧ t.vbr = s.params.resetVbr ∧
      t.pc = s.params.resetVector ∧ t.expevt = 0 ∧
      t.gprBank = bankOf s.params t.sr ∧ t.srMode = srDecode s.params t.sr ∧ t.oldSr = t.sr ∧
      t.fpBank = fpbankOf s.params t.fpscr ∧ t.fpMode = fpscrDecode s.params t.fpscr ∧ t.oldFpscr = t.fpscr ∧
      (s.params.hostFpuCtl = true →
        t.hostFpctl = some ⟨t.fpscr.extractLsb' s.params.fpscrRm.val 2, t.fpscr.getLsbD s.params.fpscrDn.val⟩) ∧
      t.excState = .normal ∧ t.fatal = false ∧ t.fatalReason = .none ∧
      t.fullMMU = m ∧ t.params = s.params ∧ t.inputs = rest ∧ t.hostErrors = s.hostErrors

/-- R61, R251, R252 with the default parameters (decision D26; the five constants are "from general knowledge, not in
source", notes/assumptions/14.md): what State.reset holds. -/
def Obligations.ResetStateHasTheStatedValues : Prop :=
  State.reset.pc = 0xA0000000 ∧ State.reset.sr = 0x700000F0 ∧ State.reset.vbr = 0 ∧ State.reset.fpscr = 0x00040001 ∧
  State.reset.expevt = 0 ∧ State.reset.oldSr = 0x700000F0 ∧ State.reset.oldFpscr = 0x00040001 ∧
  State.reset.gprBank = true ∧ State.reset.fpBank = false ∧
  State.reset.srMode = ⟨true, true, true, 0xF, false⟩ ∧ State.reset.fpMode = ⟨false, 1, true, false, false⟩ ∧
  State.reset.hostFpctl = some ⟨1, true⟩ ∧ State.reset.excState = .normal ∧ State.reset.fatal = false ∧
  State.reset.fatalReason = .none

/-- The invariants hold at reset. -/
def Obligations.InvariantsHoldAtReset : Prop :=
  Derived State.reset ∧ Coherent State.reset.params ∧ ReservedClear State.reset ∧ Outputs State.reset

/-- R53 (derived in the spec from R44 to R46, R52, R181, R183, R196, R251): the derived state stays a function of the
shadows, and no delivery is pending between two operations. -/
def Obligations.EveryStepKeepsTheDerivedState : Prop :=
  ∀ (s t : State), Derived s → step s = .next t → Derived t

/-- R32, R43 (decisions D7, D8): reserved bits of SR, FPSCR and their shadows stay 0, if the reset constants of the
parameters have none set. -/
def Obligations.EveryStepKeepsReservedBitsClear : Prop :=
  ∀ (s t : State), Coherent s.params → ReservedClear s → step s = .next t → Coherent t.params ∧ ReservedClear t

/-- R57, R58 (decisions D12, D23): the host latch exists exactly when P_HOST_FPU_CTL says so, and a reason stands
exactly while the block is stopped. -/
def Obligations.EveryStepKeepsTheOutputsLegal : Prop :=
  ∀ (s t : State), Outputs s → step s = .next t → Outputs t

/-! ## The NaN hooks as functions -/

/-- R5, R169, R170 (decision D13): P_FIXNAN32 and P_FIXNAN64 may be any total functions, and the default is the identity.
Each function is the configured one of some setting of the parameter, and with that setting FIXNAN and FIXNAN64 answer
it. The setting as a table is the model's choice (notes/assumptions/3.md). -/
def Obligations.EveryTotalFunctionIsANanHook : Prop :=
  (∀ f : Word → Word, ∃ h : NanHook 32, ∀ s : State, s.fatal = false → s.params.fixNan32 = h →
    ∀ v, Answers (exec (.fixnan v) s) s (zext64 (f v))) ∧
  (∀ f : DWord → DWord, ∃ h : NanHook 64, ∀ s : State, s.fatal = false → s.params.fixNan64 = h →
    ∀ v, Answers (exec (.fixnan64 v) s) s (f v)) ∧
  Params.default.fixNan32 = .passThrough ∧ Params.default.fixNan64 = .passThrough
end

