-- ==== Sys2Proof/Laws/Bits.lean ====
section
/-! SUPPORT. The small laws of slices, concatenation, zero extension, the write masks and the slices of a request. -/

namespace Sys2Proof

@[simp] theorem hiWord_joinWords (hi lo : Word) : hiWord (joinWords hi lo) = hi := by
  apply BitVec.eq_of_getElem_eq
  intro i h
  simp only [hiWord, joinWords, BitVec.getElem_extractLsb', BitVec.getLsbD_append]
  simp [h]

@[simp] theorem loWord_joinWords (hi lo : Word) : loWord (joinWords hi lo) = lo := by
  apply BitVec.eq_of_getElem_eq
  intro i h
  simp only [loWord, joinWords, BitVec.getElem_extractLsb', BitVec.getLsbD_append]
  simp [h]

@[simp] theorem joinWords_hi_lo (v : DWord) : joinWords (hiWord v) (loWord v) = v := by
  apply BitVec.eq_of_getLsbD_eq
  intro i h
  simp only [hiWord, loWord, joinWords, BitVec.getLsbD_append, BitVec.getLsbD_extractLsb']
  split <;> rename_i h'
  · simp [h']
  · rw [show 32 + (i - 32) = i by omega]
    simp [show i - 32 < 32 by omega]

@[simp] theorem loWord_zext64 (v : Word) : loWord (zext64 v) = v := by
  apply BitVec.eq_of_getElem_eq
  intro i h
  simp only [loWord, zext64, BitVec.getElem_extractLsb', BitVec.getLsbD_setWidth]
  simp [show i < 64 by omega, BitVec.getLsbD_eq_getElem h]

@[simp] theorem hiWord_zext64 (v : Word) : hiWord (zext64 v) = 0 := by
  apply BitVec.eq_of_getElem_eq
  intro i h
  simp only [hiWord, zext64, BitVec.getElem_extractLsb', BitVec.getLsbD_setWidth]
  simp

/-- The slices of a request see only its command word. -/
@[simp] theorem Request.op_mk (cmd : CmdWord) (a : DWord) (b c : Word) : Request.op ⟨cmd, a, b, c⟩ = cmd.toNat / 256 :=
  rfl

@[simp] theorem Request.sel_mk (cmd : CmdWord) (a : DWord) (b c : Word) : Request.sel ⟨cmd, a, b, c⟩ = cmd.toNat % 256 :=
  rfl

/-- The command word is rebuilt from its two fields (R90). -/
theorem cmdOf_op_sel (r : Request) : cmdOf r.op r.sel = r.cmd := by
  apply BitVec.eq_of_toNat_eq
  have := r.cmd.isLt
  simp only [cmdOf, Request.op, Request.sel, BitVec.toNat_ofNat]
  omega

/-- The fields of a built command word are what it was built from. -/
theorem toNat_cmdOf {op sel : Nat} (ho : op < 256) (hs : sel < 256) : (cmdOf op sel).toNat = op * 256 + sel := by
  simp only [cmdOf, BitVec.toNat_ofNat]
  omega

theorem op_cmdOf {op sel : Nat} (ho : op < 256) (hs : sel < 256) : (cmdOf op sel).toNat / 256 = op := by
  rw [toNat_cmdOf ho hs]; omega

theorem sel_cmdOf {op sel : Nat} (ho : op < 256) (hs : sel < 256) : (cmdOf op sel).toNat % 256 = sel := by
  rw [toNat_cmdOf ho hs]; omega

/-! The index readers of the decoder: what they accept and what they give. -/

theorem indexN4_eq_some {sel : Nat} {n : Fin 16} : indexN4 sel = some n ↔ sel = n.val := by
  unfold indexN4
  split <;> simp [Fin.ext_iff]
  omega

theorem indexN3_eq_some {sel : Nat} {n : Fin 8} : indexN3 sel = some n ↔ sel = n.val := by
  unfold indexN3
  split <;> simp [Fin.ext_iff]
  omega

theorem noSelector_eq_some {sel : Nat} {i j : Instr} : noSelector sel i = some j ↔ sel = 0 ∧ i = j := by
  unfold noSelector
  split <;> simp_all

theorem indexFrom_eq_some {base size sel : Nat} {n : Fin size} :
    indexFrom base size sel = some n ↔ sel = base + n.val := by
  unfold indexFrom
  split <;> simp [Fin.ext_iff] <;> omega

end Sys2Proof

namespace Sys2Proof.Machine

/-- A masked write masked again is itself (R32). -/
@[simp] theorem maskSr_maskSr (p : Params) (v : Word) : maskSr p (maskSr p v) = maskSr p v := by
  simp [maskSr, BitVec.and_assoc]

@[simp] theorem maskFpscr_maskFpscr (p : Params) (v : Word) : maskFpscr p (maskFpscr p v) = maskFpscr p v := by
  simp [maskFpscr, BitVec.and_assoc]

/-- The status of exception entry has its reserved bits clear. -/
@[simp] theorem maskSr_entrySr (p : Params) (v : Word) : maskSr p (entrySr p v) = entrySr p v := by
  simp [entrySr]

@[simp] theorem srDecode_bank (p : Params) (s : Word) : (srDecode p s).bank = bankOf p s := rfl

@[simp] theorem fpscrDecode_bank (p : Params) (f : Word) : (fpscrDecode p f).bank = fpbankOf p f := rfl

/-- The remap table, row by row (R202). -/
@[simp] theorem slotRemap_fpuDisable : slotRemap 0x800 = 0x820 := rfl

@[simp] theorem slotRemap_illegal : slotRemap 0x180 = 0x1A0 := rfl

theorem slotRemap_other {e : Word} (h8 : e ≠ 0x800) (h1 : e ≠ 0x180) : slotRemap e = e := by
  unfold slotRemap
  rw [if_neg h8, if_neg h1]

/-! The NaN hooks (R169, R170). -/

@[simp] theorem fixNan32_passThrough (v : Word) : fixNan32 .passThrough v = v := rfl

@[simp] theorem fixNan64_passThrough (v : DWord) : fixNan64 .passThrough v = v := rfl

@[simp] theorem fixNan32_table (rows : List (Word × Word)) (v : Word) : fixNan32 (.table rows) v = applyTable rows v := rfl

@[simp] theorem fixNan64_table (rows : List (DWord × DWord)) (v : DWord) :
    fixNan64 (.table rows) v = applyTable rows v := rfl

/-- A table that lists the graph of `f` over some patterns gives `f` on each of them. -/
theorem applyTable_graph {w : Nat} (f : BitVec w → BitVec w) (dom : List (BitVec w)) {v : BitVec w} (h : v ∈ dom) :
    applyTable (dom.map fun x => (x, f x)) v = f v := by
  induction dom with
  | nil => simp at h
  | cons x xs ih =>
    by_cases hx : v = x
    · simp [applyTable, hx]
    · have hb : (v == x) = false := by simpa using hx
      have hm : v ∈ xs := by simpa [hx] using h
      simpa [applyTable, List.lookup, hb] using ih hm

/-- Every total function of bit patterns is the function of some table. -/
theorem exists_table_eq {w : Nat} (f : BitVec w → BitVec w) :
    ∃ rows, ∀ v, applyTable rows v = f v :=
  ⟨_, fun v => applyTable_graph f ((List.finRange (2 ^ w)).map BitVec.ofFin)
    (List.mem_map.2 ⟨v.toFin, List.mem_finRange _, rfl⟩)⟩

end Sys2Proof.Machine
end

