-- ==== Sys2Proof/Laws/State.lean ====
section
/-! SUPPORT. One lemma per field for each shared update of State: a field it writes has the value written, any other its
old value. Later proofs cite these (they are simp lemmas) and unfold no record update. -/

namespace Sys2Proof.Machine

/-! ## answer -/

@[simp] theorem State.answer_params (s : State) (r : Response) : (s.answer r).params = s.params := rfl
@[simp] theorem State.answer_fullMMU (s : State) (r : Response) : (s.answer r).fullMMU = s.fullMMU := rfl
@[simp] theorem State.answer_gb0 (s : State) (r : Response) : (s.answer r).gb0 = s.gb0 := rfl
@[simp] theorem State.answer_gb1 (s : State) (r : Response) : (s.answer r).gb1 = s.gb1 := rfl
@[simp] theorem State.answer_rh (s : State) (r : Response) : (s.answer r).rh = s.rh := rfl
@[simp] theorem State.answer_gprBank (s : State) (r : Response) : (s.answer r).gprBank = s.gprBank := rfl
@[simp] theorem State.answer_pc (s : State) (r : Response) : (s.answer r).pc = s.pc := rfl
@[simp] theorem State.answer_sr (s : State) (r : Response) : (s.answer r).sr = s.sr := rfl
@[simp] theorem State.answer_ssr (s : State) (r : Response) : (s.answer r).ssr = s.ssr := rfl
@[simp] theorem State.answer_spc (s : State) (r : Response) : (s.answer r).spc = s.spc := rfl
@[simp] theorem State.answer_sgr (s : State) (r : Response) : (s.answer r).sgr = s.sgr := rfl
@[simp] theorem State.answer_dbr (s : State) (r : Response) : (s.answer r).dbr = s.dbr := rfl
@[simp] theorem State.answer_vbr (s : State) (r : Response) : (s.answer r).vbr = s.vbr := rfl
@[simp] theorem State.answer_mac (s : State) (r : Response) : (s.answer r).mac = s.mac := rfl
@[simp] theorem State.answer_pr (s : State) (r : Response) : (s.answer r).pr = s.pr := rfl
@[simp] theorem State.answer_fpul (s : State) (r : Response) : (s.answer r).fpul = s.fpul := rfl
@[simp] theorem State.answer_fpscr (s : State) (r : Response) : (s.answer r).fpscr = s.fpscr := rfl
@[simp] theorem State.answer_oldSr (s : State) (r : Response) : (s.answer r).oldSr = s.oldSr := rfl
@[simp] theorem State.answer_oldFpscr (s : State) (r : Response) : (s.answer r).oldFpscr = s.oldFpscr := rfl
@[simp] theorem State.answer_srMode (s : State) (r : Response) : (s.answer r).srMode = s.srMode := rfl
@[simp] theorem State.answer_fb0 (s : State) (r : Response) : (s.answer r).fb0 = s.fb0 := rfl
@[simp] theorem State.answer_fb1 (s : State) (r : Response) : (s.answer r).fb1 = s.fb1 := rfl
@[simp] theorem State.answer_fpBank (s : State) (r : Response) : (s.answer r).fpBank = s.fpBank := rfl
@[simp] theorem State.answer_fpMode (s : State) (r : Response) : (s.answer r).fpMode = s.fpMode := rfl
@[simp] theorem State.answer_excState (s : State) (r : Response) : (s.answer r).excState = s.excState := rfl
@[simp] theorem State.answer_expevt (s : State) (r : Response) : (s.answer r).expevt = s.expevt := rfl
@[simp] theorem State.answer_hostFpctl (s : State) (r : Response) : (s.answer r).hostFpctl = s.hostFpctl := rfl
@[simp] theorem State.answer_fatal (s : State) (r : Response) : (s.answer r).fatal = s.fatal := rfl
@[simp] theorem State.answer_fatalReason (s : State) (r : Response) : (s.answer r).fatalReason = s.fatalReason := rfl
@[simp] theorem State.answer_response (s : State) (r : Response) : (s.answer r).response = some r := rfl
@[simp] theorem State.answer_hostErrors (s : State) (r : Response) : (s.answer r).hostErrors = s.hostErrors := rfl
@[simp] theorem State.answer_inputs (s : State) (r : Response) : (s.answer r).inputs = s.inputs := rfl
@[simp] theorem State.answer_draws (s : State) (r : Response) : (s.answer r).draws = s.draws := rfl

/-! ## stop -/

@[simp] theorem State.stop_params (s : State) (x : FatalReason) : (s.stop x).params = s.params := rfl
@[simp] theorem State.stop_fullMMU (s : State) (x : FatalReason) : (s.stop x).fullMMU = s.fullMMU := rfl
@[simp] theorem State.stop_gb0 (s : State) (x : FatalReason) : (s.stop x).gb0 = s.gb0 := rfl
@[simp] theorem State.stop_gb1 (s : State) (x : FatalReason) : (s.stop x).gb1 = s.gb1 := rfl
@[simp] theorem State.stop_rh (s : State) (x : FatalReason) : (s.stop x).rh = s.rh := rfl
@[simp] theorem State.stop_gprBank (s : State) (x : FatalReason) : (s.stop x).gprBank = s.gprBank := rfl
@[simp] theorem State.stop_pc (s : State) (x : FatalReason) : (s.stop x).pc = s.pc := rfl
@[simp] theorem State.stop_sr (s : State) (x : FatalReason) : (s.stop x).sr = s.sr := rfl
@[simp] theorem State.stop_ssr (s : State) (x : FatalReason) : (s.stop x).ssr = s.ssr := rfl
@[simp] theorem State.stop_spc (s : State) (x : FatalReason) : (s.stop x).spc = s.spc := rfl
@[simp] theorem State.stop_sgr (s : State) (x : FatalReason) : (s.stop x).sgr = s.sgr := rfl
@[simp] theorem State.stop_dbr (s : State) (x : FatalReason) : (s.stop x).dbr = s.dbr := rfl
@[simp] theorem State.stop_vbr (s : State) (x : FatalReason) : (s.stop x).vbr = s.vbr := rfl
@[simp] theorem State.stop_mac (s : State) (x : FatalReason) : (s.stop x).mac = s.mac := rfl
@[simp] theorem State.stop_pr (s : State) (x : FatalReason) : (s.stop x).pr = s.pr := rfl
@[simp] theorem State.stop_fpul (s : State) (x : FatalReason) : (s.stop x).fpul = s.fpul := rfl
@[simp] theorem State.stop_fpscr (s : State) (x : FatalReason) : (s.stop x).fpscr = s.fpscr := rfl
@[simp] theorem State.stop_oldSr (s : State) (x : FatalReason) : (s.stop x).oldSr = s.oldSr := rfl
@[simp] theorem State.stop_oldFpscr (s : State) (x : FatalReason) : (s.stop x).oldFpscr = s.oldFpscr := rfl
@[simp] theorem State.stop_srMode (s : State) (x : FatalReason) : (s.stop x).srMode = s.srMode := rfl
@[simp] theorem State.stop_fb0 (s : State) (x : FatalReason) : (s.stop x).fb0 = s.fb0 := rfl
@[simp] theorem State.stop_fb1 (s : State) (x : FatalReason) : (s.stop x).fb1 = s.fb1 := rfl
@[simp] theorem State.stop_fpBank (s : State) (x : FatalReason) : (s.stop x).fpBank = s.fpBank := rfl
@[simp] theorem State.stop_fpMode (s : State) (x : FatalReason) : (s.stop x).fpMode = s.fpMode := rfl
@[simp] theorem State.stop_excState (s : State) (x : FatalReason) : (s.stop x).excState = s.excState := rfl
@[simp] theorem State.stop_expevt (s : State) (x : FatalReason) : (s.stop x).expevt = s.expevt := rfl
@[simp] theorem State.stop_hostFpctl (s : State) (x : FatalReason) : (s.stop x).hostFpctl = s.hostFpctl := rfl
@[simp] theorem State.stop_fatal (s : State) (x : FatalReason) : (s.stop x).fatal = true := rfl
@[simp] theorem State.stop_fatalReason (s : State) (x : FatalReason) : (s.stop x).fatalReason = x := rfl
@[simp] theorem State.stop_response (s : State) (x : FatalReason) : (s.stop x).response = some .stopped := rfl
@[simp] theorem State.stop_hostErrors (s : State) (x : FatalReason) : (s.stop x).hostErrors = s.hostErrors ++ [⟨.error, x⟩] := rfl
@[simp] theorem State.stop_inputs (s : State) (x : FatalReason) : (s.stop x).inputs = s.inputs := rfl
@[simp] theorem State.stop_draws (s : State) (x : FatalReason) : (s.stop x).draws = s.draws := rfl

/-! ## dropInput -/

@[simp] theorem State.dropInput_params (s : State) (l : List Input) : (s.dropInput l).params = s.params := rfl
@[simp] theorem State.dropInput_fullMMU (s : State) (l : List Input) : (s.dropInput l).fullMMU = s.fullMMU := rfl
@[simp] theorem State.dropInput_gb0 (s : State) (l : List Input) : (s.dropInput l).gb0 = s.gb0 := rfl
@[simp] theorem State.dropInput_gb1 (s : State) (l : List Input) : (s.dropInput l).gb1 = s.gb1 := rfl
@[simp] theorem State.dropInput_rh (s : State) (l : List Input) : (s.dropInput l).rh = s.rh := rfl
@[simp] theorem State.dropInput_gprBank (s : State) (l : List Input) : (s.dropInput l).gprBank = s.gprBank := rfl
@[simp] theorem State.dropInput_pc (s : State) (l : List Input) : (s.dropInput l).pc = s.pc := rfl
@[simp] theorem State.dropInput_sr (s : State) (l : List Input) : (s.dropInput l).sr = s.sr := rfl
@[simp] theorem State.dropInput_ssr (s : State) (l : List Input) : (s.dropInput l).ssr = s.ssr := rfl
@[simp] theorem State.dropInput_spc (s : State) (l : List Input) : (s.dropInput l).spc = s.spc := rfl
@[simp] theorem State.dropInput_sgr (s : State) (l : List Input) : (s.dropInput l).sgr = s.sgr := rfl
@[simp] theorem State.dropInput_dbr (s : State) (l : List Input) : (s.dropInput l).dbr = s.dbr := rfl
@[simp] theorem State.dropInput_vbr (s : State) (l : List Input) : (s.dropInput l).vbr = s.vbr := rfl
@[simp] theorem State.dropInput_mac (s : State) (l : List Input) : (s.dropInput l).mac = s.mac := rfl
@[simp] theorem State.dropInput_pr (s : State) (l : List Input) : (s.dropInput l).pr = s.pr := rfl
@[simp] theorem State.dropInput_fpul (s : State) (l : List Input) : (s.dropInput l).fpul = s.fpul := rfl
@[simp] theorem State.dropInput_fpscr (s : State) (l : List Input) : (s.dropInput l).fpscr = s.fpscr := rfl
@[simp] theorem State.dropInput_oldSr (s : State) (l : List Input) : (s.dropInput l).oldSr = s.oldSr := rfl
@[simp] theorem State.dropInput_oldFpscr (s : State) (l : List Input) : (s.dropInput l).oldFpscr = s.oldFpscr := rfl
@[simp] theorem State.dropInput_srMode (s : State) (l : List Input) : (s.dropInput l).srMode = s.srMode := rfl
@[simp] theorem State.dropInput_fb0 (s : State) (l : List Input) : (s.dropInput l).fb0 = s.fb0 := rfl
@[simp] theorem State.dropInput_fb1 (s : State) (l : List Input) : (s.dropInput l).fb1 = s.fb1 := rfl
@[simp] theorem State.dropInput_fpBank (s : State) (l : List Input) : (s.dropInput l).fpBank = s.fpBank := rfl
@[simp] theorem State.dropInput_fpMode (s : State) (l : List Input) : (s.dropInput l).fpMode = s.fpMode := rfl
@[simp] theorem State.dropInput_excState (s : State) (l : List Input) : (s.dropInput l).excState = s.excState := rfl
@[simp] theorem State.dropInput_expevt (s : State) (l : List Input) : (s.dropInput l).expevt = s.expevt := rfl
@[simp] theorem State.dropInput_hostFpctl (s : State) (l : List Input) : (s.dropInput l).hostFpctl = s.hostFpctl := rfl
@[simp] theorem State.dropInput_fatal (s : State) (l : List Input) : (s.dropInput l).fatal = s.fatal := rfl
@[simp] theorem State.dropInput_fatalReason (s : State) (l : List Input) : (s.dropInput l).fatalReason = s.fatalReason := rfl
@[simp] theorem State.dropInput_response (s : State) (l : List Input) : (s.dropInput l).response = s.response := rfl
@[simp] theorem State.dropInput_hostErrors (s : State) (l : List Input) : (s.dropInput l).hostErrors = s.hostErrors := rfl
@[simp] theorem State.dropInput_inputs (s : State) (l : List Input) : (s.dropInput l).inputs = l := rfl
@[simp] theorem State.dropInput_draws (s : State) (l : List Input) : (s.dropInput l).draws = s.draws := rfl

/-! ## setGb -/

@[simp] theorem State.setGb_params (s : State) (b : Bool) (n : Fin 8) (v : Word) : (s.setGb b n v).params = s.params := by cases b <;> rfl
@[simp] theorem State.setGb_fullMMU (s : State) (b : Bool) (n : Fin 8) (v : Word) : (s.setGb b n v).fullMMU = s.fullMMU := by cases b <;> rfl
@[simp] theorem State.setGb_rh (s : State) (b : Bool) (n : Fin 8) (v : Word) : (s.setGb b n v).rh = s.rh := by cases b <;> rfl
@[simp] theorem State.setGb_gprBank (s : State) (b : Bool) (n : Fin 8) (v : Word) : (s.setGb b n v).gprBank = s.gprBank := by cases b <;> rfl
@[simp] theorem State.setGb_pc (s : State) (b : Bool) (n : Fin 8) (v : Word) : (s.setGb b n v).pc = s.pc := by cases b <;> rfl
@[simp] theorem State.setGb_sr (s : State) (b : Bool) (n : Fin 8) (v : Word) : (s.setGb b n v).sr = s.sr := by cases b <;> rfl
@[simp] theorem State.setGb_ssr (s : State) (b : Bool) (n : Fin 8) (v : Word) : (s.setGb b n v).ssr = s.ssr := by cases b <;> rfl
@[simp] theorem State.setGb_spc (s : State) (b : Bool) (n : Fin 8) (v : Word) : (s.setGb b n v).spc = s.spc := by cases b <;> rfl
@[simp] theorem State.setGb_sgr (s : State) (b : Bool) (n : Fin 8) (v : Word) : (s.setGb b n v).sgr = s.sgr := by cases b <;> rfl
@[simp] theorem State.setGb_dbr (s : State) (b : Bool) (n : Fin 8) (v : Word) : (s.setGb b n v).dbr = s.dbr := by cases b <;> rfl
@[simp] theorem State.setGb_vbr (s : State) (b : Bool) (n : Fin 8) (v : Word) : (s.setGb b n v).vbr = s.vbr := by cases b <;> rfl
@[simp] theorem State.setGb_mac (s : State) (b : Bool) (n : Fin 8) (v : Word) : (s.setGb b n v).mac = s.mac := by cases b <;> rfl
@[simp] theorem State.setGb_pr (s : State) (b : Bool) (n : Fin 8) (v : Word) : (s.setGb b n v).pr = s.pr := by cases b <;> rfl
@[simp] theorem State.setGb_fpul (s : State) (b : Bool) (n : Fin 8) (v : Word) : (s.setGb b n v).fpul = s.fpul := by cases b <;> rfl
@[simp] theorem State.setGb_fpscr (s : State) (b : Bool) (n : Fin 8) (v : Word) : (s.setGb b n v).fpscr = s.fpscr := by cases b <;> rfl
@[simp] theorem State.setGb_oldSr (s : State) (b : Bool) (n : Fin 8) (v : Word) : (s.setGb b n v).oldSr = s.oldSr := by cases b <;> rfl
@[simp] theorem State.setGb_oldFpscr (s : State) (b : Bool) (n : Fin 8) (v : Word) : (s.setGb b n v).oldFpscr = s.oldFpscr := by cases b <;> rfl
@[simp] theorem State.setGb_srMode (s : State) (b : Bool) (n : Fin 8) (v : Word) : (s.setGb b n v).srMode = s.srMode := by cases b <;> rfl
@[simp] theorem State.setGb_fb0 (s : State) (b : Bool) (n : Fin 8) (v : Word) : (s.setGb b n v).fb0 = s.fb0 := by cases b <;> rfl
@[simp] theorem State.setGb_fb1 (s : State) (b : Bool) (n : Fin 8) (v : Word) : (s.setGb b n v).fb1 = s.fb1 := by cases b <;> rfl
@[simp] theorem State.setGb_fpBank (s : State) (b : Bool) (n : Fin 8) (v : Word) : (s.setGb b n v).fpBank = s.fpBank := by cases b <;> rfl
@[simp] theorem State.setGb_fpMode (s : State) (b : Bool) (n : Fin 8) (v : Word) : (s.setGb b n v).fpMode = s.fpMode := by cases b <;> rfl
@[simp] theorem State.setGb_excState (s : State) (b : Bool) (n : Fin 8) (v : Word) : (s.setGb b n v).excState = s.excState := by cases b <;> rfl
@[simp] theorem State.setGb_expevt (s : State) (b : Bool) (n : Fin 8) (v : Word) : (s.setGb b n v).expevt = s.expevt := by cases b <;> rfl
@[simp] theorem State.setGb_hostFpctl (s : State) (b : Bool) (n : Fin 8) (v : Word) : (s.setGb b n v).hostFpctl = s.hostFpctl := by cases b <;> rfl
@[simp] theorem State.setGb_fatal (s : State) (b : Bool) (n : Fin 8) (v : Word) : (s.setGb b n v).fatal = s.fatal := by cases b <;> rfl
@[simp] theorem State.setGb_fatalReason (s : State) (b : Bool) (n : Fin 8) (v : Word) : (s.setGb b n v).fatalReason = s.fatalReason := by cases b <;> rfl
@[simp] theorem State.setGb_response (s : State) (b : Bool) (n : Fin 8) (v : Word) : (s.setGb b n v).response = s.response := by cases b <;> rfl
@[simp] theorem State.setGb_hostErrors (s : State) (b : Bool) (n : Fin 8) (v : Word) : (s.setGb b n v).hostErrors = s.hostErrors := by cases b <;> rfl
@[simp] theorem State.setGb_inputs (s : State) (b : Bool) (n : Fin 8) (v : Word) : (s.setGb b n v).inputs = s.inputs := by cases b <;> rfl
@[simp] theorem State.setGb_draws (s : State) (b : Bool) (n : Fin 8) (v : Word) : (s.setGb b n v).draws = s.draws := by cases b <;> rfl

/-! ## writeR -/

@[simp] theorem State.writeR_params (s : State) (n : Fin 16) (v : Word) : (s.writeR n v).params = s.params := by
  unfold State.writeR; split <;> simp
@[simp] theorem State.writeR_fullMMU (s : State) (n : Fin 16) (v : Word) : (s.writeR n v).fullMMU = s.fullMMU := by
  unfold State.writeR; split <;> simp
@[simp] theorem State.writeR_gprBank (s : State) (n : Fin 16) (v : Word) : (s.writeR n v).gprBank = s.gprBank := by
  unfold State.writeR; split <;> simp
@[simp] theorem State.writeR_pc (s : State) (n : Fin 16) (v : Word) : (s.writeR n v).pc = s.pc := by
  unfold State.writeR; split <;> simp
@[simp] theorem State.writeR_sr (s : State) (n : Fin 16) (v : Word) : (s.writeR n v).sr = s.sr := by
  unfold State.writeR; split <;> simp
@[simp] theorem State.writeR_ssr (s : State) (n : Fin 16) (v : Word) : (s.writeR n v).ssr = s.ssr := by
  unfold State.writeR; split <;> simp
@[simp] theorem State.writeR_spc (s : State) (n : Fin 16) (v : Word) : (s.writeR n v).spc = s.spc := by
  unfold State.writeR; split <;> simp
@[simp] theorem State.writeR_sgr (s : State) (n : Fin 16) (v : Word) : (s.writeR n v).sgr = s.sgr := by
  unfold State.writeR; split <;> simp
@[simp] theorem State.writeR_dbr (s : State) (n : Fin 16) (v : Word) : (s.writeR n v).dbr = s.dbr := by
  unfold State.writeR; split <;> simp
@[simp] theorem State.writeR_vbr (s : State) (n : Fin 16) (v : Word) : (s.writeR n v).vbr = s.vbr := by
  unfold State.writeR; split <;> simp
@[simp] theorem State.writeR_mac (s : State) (n : Fin 16) (v : Word) : (s.writeR n v).mac = s.mac := by
  unfold State.writeR; split <;> simp
@[simp] theorem State.writeR_pr (s : State) (n : Fin 16) (v : Word) : (s.writeR n v).pr = s.pr := by
  unfold State.writeR; split <;> simp
@[simp] theorem State.writeR_fpul (s : State) (n : Fin 16) (v : Word) : (s.writeR n v).fpul = s.fpul := by
  unfold State.writeR; split <;> simp
@[simp] theorem State.writeR_fpscr (s : State) (n : Fin 16) (v : Word) : (s.writeR n v).fpscr = s.fpscr := by
  unfold State.writeR; split <;> simp
@[simp] theorem State.writeR_oldSr (s : State) (n : Fin 16) (v : Word) : (s.writeR n v).oldSr = s.oldSr := by
  unfold State.writeR; split <;> simp
@[simp] theorem State.writeR_oldFpscr (s : State) (n : Fin 16) (v : Word) : (s.writeR n v).oldFpscr = s.oldFpscr := by
  unfold State.writeR; split <;> simp
@[simp] theorem State.writeR_srMode (s : State) (n : Fin 16) (v : Word) : (s.writeR n v).srMode = s.srMode := by
  unfold State.writeR; split <;> simp
@[simp] theorem State.writeR_fb0 (s : State) (n : Fin 16) (v : Word) : (s.writeR n v).fb0 = s.fb0 := by
  unfold State.writeR; split <;> simp
@[simp] theorem State.writeR_fb1 (s : State) (n : Fin 16) (v : Word) : (s.writeR n v).fb1 = s.fb1 := by
  unfold State.writeR; split <;> simp
@[simp] theorem State.writeR_fpBank (s : State) (n : Fin 16) (v : Word) : (s.writeR n v).fpBank = s.fpBank := by
  unfold State.writeR; split <;> simp
@[simp] theorem State.writeR_fpMode (s : State) (n : Fin 16) (v : Word) : (s.writeR n v).fpMode = s.fpMode := by
  unfold State.writeR; split <;> simp
@[simp] theorem State.writeR_excState (s : State) (n : Fin 16) (v : Word) : (s.writeR n v).excState = s.excState := by
  unfold State.writeR; split <;> simp
@[simp] theorem State.writeR_expevt (s : State) (n : Fin 16) (v : Word) : (s.writeR n v).expevt = s.expevt := by
  unfold State.writeR; split <;> simp
@[simp] theorem State.writeR_hostFpctl (s : State) (n : Fin 16) (v : Word) : (s.writeR n v).hostFpctl = s.hostFpctl := by
  unfold State.writeR; split <;> simp
@[simp] theorem State.writeR_fatal (s : State) (n : Fin 16) (v : Word) : (s.writeR n v).fatal = s.fatal := by
  unfold State.writeR; split <;> simp
@[simp] theorem State.writeR_fatalReason (s : State) (n : Fin 16) (v : Word) : (s.writeR n v).fatalReason = s.fatalReason := by
  unfold State.writeR; split <;> simp
@[simp] theorem State.writeR_response (s : State) (n : Fin 16) (v : Word) : (s.writeR n v).response = s.response := by
  unfold State.writeR; split <;> simp
@[simp] theorem State.writeR_hostErrors (s : State) (n : Fin 16) (v : Word) : (s.writeR n v).hostErrors = s.hostErrors := by
  unfold State.writeR; split <;> simp
@[simp] theorem State.writeR_inputs (s : State) (n : Fin 16) (v : Word) : (s.writeR n v).inputs = s.inputs := by
  unfold State.writeR; split <;> simp
@[simp] theorem State.writeR_draws (s : State) (n : Fin 16) (v : Word) : (s.writeR n v).draws = s.draws := by
  unfold State.writeR; split <;> simp

/-! ## writeRBank -/

@[simp] theorem State.writeRBank_params (s : State) (n : Fin 8) (v : Word) : (s.writeRBank n v).params = s.params := by simp [State.writeRBank]
@[simp] theorem State.writeRBank_fullMMU (s : State) (n : Fin 8) (v : Word) : (s.writeRBank n v).fullMMU = s.fullMMU := by simp [State.writeRBank]
@[simp] theorem State.writeRBank_rh (s : State) (n : Fin 8) (v : Word) : (s.writeRBank n v).rh = s.rh := by simp [State.writeRBank]
@[simp] theorem State.writeRBank_gprBank (s : State) (n : Fin 8) (v : Word) : (s.writeRBank n v).gprBank = s.gprBank := by simp [State.writeRBank]
@[simp] theorem State.writeRBank_pc (s : State) (n : Fin 8) (v : Word) : (s.writeRBank n v).pc = s.pc := by simp [State.writeRBank]
@[simp] theorem State.writeRBank_sr (s : State) (n : Fin 8) (v : Word) : (s.writeRBank n v).sr = s.sr := by simp [State.writeRBank]
@[simp] theorem State.writeRBank_ssr (s : State) (n : Fin 8) (v : Word) : (s.writeRBank n v).ssr = s.ssr := by simp [State.writeRBank]
@[simp] theorem State.writeRBank_spc (s : State) (n : Fin 8) (v : Word) : (s.writeRBank n v).spc = s.spc := by simp [State.writeRBank]
@[simp] theorem State.writeRBank_sgr (s : State) (n : Fin 8) (v : Word) : (s.writeRBank n v).sgr = s.sgr := by simp [State.writeRBank]
@[simp] theorem State.writeRBank_dbr (s : State) (n : Fin 8) (v : Word) : (s.writeRBank n v).dbr = s.dbr := by simp [State.writeRBank]
@[simp] theorem State.writeRBank_vbr (s : State) (n : Fin 8) (v : Word) : (s.writeRBank n v).vbr = s.vbr := by simp [State.writeRBank]
@[simp] theorem State.writeRBank_mac (s : State) (n : Fin 8) (v : Word) : (s.writeRBank n v).mac = s.mac := by simp [State.writeRBank]
@[simp] theorem State.writeRBank_pr (s : State) (n : Fin 8) (v : Word) : (s.writeRBank n v).pr = s.pr := by simp [State.writeRBank]
@[simp] theorem State.writeRBank_fpul (s : State) (n : Fin 8) (v : Word) : (s.writeRBank n v).fpul = s.fpul := by simp [State.writeRBank]
@[simp] theorem State.writeRBank_fpscr (s : State) (n : Fin 8) (v : Word) : (s.writeRBank n v).fpscr = s.fpscr := by simp [State.writeRBank]
@[simp] theorem State.writeRBank_oldSr (s : State) (n : Fin 8) (v : Word) : (s.writeRBank n v).oldSr = s.oldSr := by simp [State.writeRBank]
@[simp] theorem State.writeRBank_oldFpscr (s : State) (n : Fin 8) (v : Word) : (s.writeRBank n v).oldFpscr = s.oldFpscr := by simp [State.writeRBank]
@[simp] theorem State.writeRBank_srMode (s : State) (n : Fin 8) (v : Word) : (s.writeRBank n v).srMode = s.srMode := by simp [State.writeRBank]
@[simp] theorem State.writeRBank_fb0 (s : State) (n : Fin 8) (v : Word) : (s.writeRBank n v).fb0 = s.fb0 := by simp [State.writeRBank]
@[simp] theorem State.writeRBank_fb1 (s : State) (n : Fin 8) (v : Word) : (s.writeRBank n v).fb1 = s.fb1 := by simp [State.writeRBank]
@[simp] theorem State.writeRBank_fpBank (s : State) (n : Fin 8) (v : Word) : (s.writeRBank n v).fpBank = s.fpBank := by simp [State.writeRBank]
@[simp] theorem State.writeRBank_fpMode (s : State) (n : Fin 8) (v : Word) : (s.writeRBank n v).fpMode = s.fpMode := by simp [State.writeRBank]
@[simp] theorem State.writeRBank_excState (s : State) (n : Fin 8) (v : Word) : (s.writeRBank n v).excState = s.excState := by simp [State.writeRBank]
@[simp] theorem State.writeRBank_expevt (s : State) (n : Fin 8) (v : Word) : (s.writeRBank n v).expevt = s.expevt := by simp [State.writeRBank]
@[simp] theorem State.writeRBank_hostFpctl (s : State) (n : Fin 8) (v : Word) : (s.writeRBank n v).hostFpctl = s.hostFpctl := by simp [State.writeRBank]
@[simp] theorem State.writeRBank_fatal (s : State) (n : Fin 8) (v : Word) : (s.writeRBank n v).fatal = s.fatal := by simp [State.writeRBank]
@[simp] theorem State.writeRBank_fatalReason (s : State) (n : Fin 8) (v : Word) : (s.writeRBank n v).fatalReason = s.fatalReason := by simp [State.writeRBank]
@[simp] theorem State.writeRBank_response (s : State) (n : Fin 8) (v : Word) : (s.writeRBank n v).response = s.response := by simp [State.writeRBank]
@[simp] theorem State.writeRBank_hostErrors (s : State) (n : Fin 8) (v : Word) : (s.writeRBank n v).hostErrors = s.hostErrors := by simp [State.writeRBank]
@[simp] theorem State.writeRBank_inputs (s : State) (n : Fin 8) (v : Word) : (s.writeRBank n v).inputs = s.inputs := by simp [State.writeRBank]
@[simp] theorem State.writeRBank_draws (s : State) (n : Fin 8) (v : Word) : (s.writeRBank n v).draws = s.draws := by simp [State.writeRBank]

/-! ## setFb -/

@[simp] theorem State.setFb_params (s : State) (b : Bool) (n : Fin 16) (v : Word) : (s.setFb b n v).params = s.params := by cases b <;> rfl
@[simp] theorem State.setFb_fullMMU (s : State) (b : Bool) (n : Fin 16) (v : Word) : (s.setFb b n v).fullMMU = s.fullMMU := by cases b <;> rfl
@[simp] theorem State.setFb_gb0 (s : State) (b : Bool) (n : Fin 16) (v : Word) : (s.setFb b n v).gb0 = s.gb0 := by cases b <;> rfl
@[simp] theorem State.setFb_gb1 (s : State) (b : Bool) (n : Fin 16) (v : Word) : (s.setFb b n v).gb1 = s.gb1 := by cases b <;> rfl
@[simp] theorem State.setFb_rh (s : State) (b : Bool) (n : Fin 16) (v : Word) : (s.setFb b n v).rh = s.rh := by cases b <;> rfl
@[simp] theorem State.setFb_gprBank (s : State) (b : Bool) (n : Fin 16) (v : Word) : (s.setFb b n v).gprBank = s.gprBank := by cases b <;> rfl
@[simp] theorem State.setFb_pc (s : State) (b : Bool) (n : Fin 16) (v : Word) : (s.setFb b n v).pc = s.pc := by cases b <;> rfl
@[simp] theorem State.setFb_sr (s : State) (b : Bool) (n : Fin 16) (v : Word) : (s.setFb b n v).sr = s.sr := by cases b <;> rfl
@[simp] theorem State.setFb_ssr (s : State) (b : Bool) (n : Fin 16) (v : Word) : (s.setFb b n v).ssr = s.ssr := by cases b <;> rfl
@[simp] theorem State.setFb_spc (s : State) (b : Bool) (n : Fin 16) (v : Word) : (s.setFb b n v).spc = s.spc := by cases b <;> rfl
@[simp] theorem State.setFb_sgr (s : State) (b : Bool) (n : Fin 16) (v : Word) : (s.setFb b n v).sgr = s.sgr := by cases b <;> rfl
@[simp] theorem State.setFb_dbr (s : State) (b : Bool) (n : Fin 16) (v : Word) : (s.setFb b n v).dbr = s.dbr := by cases b <;> rfl
@[simp] theorem State.setFb_vbr (s : State) (b : Bool) (n : Fin 16) (v : Word) : (s.setFb b n v).vbr = s.vbr := by cases b <;> rfl
@[simp] theorem State.setFb_mac (s : State) (b : Bool) (n : Fin 16) (v : Word) : (s.setFb b n v).mac = s.mac := by cases b <;> rfl
@[simp] theorem State.setFb_pr (s : State) (b : Bool) (n : Fin 16) (v : Word) : (s.setFb b n v).pr = s.pr := by cases b <;> rfl
@[simp] theorem State.setFb_fpul (s : State) (b : Bool) (n : Fin 16) (v : Word) : (s.setFb b n v).fpul = s.fpul := by cases b <;> rfl
@[simp] theorem State.setFb_fpscr (s : State) (b : Bool) (n : Fin 16) (v : Word) : (s.setFb b n v).fpscr = s.fpscr := by cases b <;> rfl
@[simp] theorem State.setFb_oldSr (s : State) (b : Bool) (n : Fin 16) (v : Word) : (s.setFb b n v).oldSr = s.oldSr := by cases b <;> rfl
@[simp] theorem State.setFb_oldFpscr (s : State) (b : Bool) (n : Fin 16) (v : Word) : (s.setFb b n v).oldFpscr = s.oldFpscr := by cases b <;> rfl
@[simp] theorem State.setFb_srMode (s : State) (b : Bool) (n : Fin 16) (v : Word) : (s.setFb b n v).srMode = s.srMode := by cases b <;> rfl
@[simp] theorem State.setFb_fpBank (s : State) (b : Bool) (n : Fin 16) (v : Word) : (s.setFb b n v).fpBank = s.fpBank := by cases b <;> rfl
@[simp] theorem State.setFb_fpMode (s : State) (b : Bool) (n : Fin 16) (v : Word) : (s.setFb b n v).fpMode = s.fpMode := by cases b <;> rfl
@[simp] theorem State.setFb_excState (s : State) (b : Bool) (n : Fin 16) (v : Word) : (s.setFb b n v).excState = s.excState := by cases b <;> rfl
@[simp] theorem State.setFb_expevt (s : State) (b : Bool) (n : Fin 16) (v : Word) : (s.setFb b n v).expevt = s.expevt := by cases b <;> rfl
@[simp] theorem State.setFb_hostFpctl (s : State) (b : Bool) (n : Fin 16) (v : Word) : (s.setFb b n v).hostFpctl = s.hostFpctl := by cases b <;> rfl
@[simp] theorem State.setFb_fatal (s : State) (b : Bool) (n : Fin 16) (v : Word) : (s.setFb b n v).fatal = s.fatal := by cases b <;> rfl
@[simp] theorem State.setFb_fatalReason (s : State) (b : Bool) (n : Fin 16) (v : Word) : (s.setFb b n v).fatalReason = s.fatalReason := by cases b <;> rfl
@[simp] theorem State.setFb_response (s : State) (b : Bool) (n : Fin 16) (v : Word) : (s.setFb b n v).response = s.response := by cases b <;> rfl
@[simp] theorem State.setFb_hostErrors (s : State) (b : Bool) (n : Fin 16) (v : Word) : (s.setFb b n v).hostErrors = s.hostErrors := by cases b <;> rfl
@[simp] theorem State.setFb_inputs (s : State) (b : Bool) (n : Fin 16) (v : Word) : (s.setFb b n v).inputs = s.inputs := by cases b <;> rfl
@[simp] theorem State.setFb_draws (s : State) (b : Bool) (n : Fin 16) (v : Word) : (s.setFb b n v).draws = s.draws := by cases b <;> rfl

/-! ## writeFr -/

@[simp] theorem State.writeFr_params (s : State) (n : Fin 16) (v : Word) : (s.writeFr n v).params = s.params := by simp [State.writeFr]
@[simp] theorem State.writeFr_fullMMU (s : State) (n : Fin 16) (v : Word) : (s.writeFr n v).fullMMU = s.fullMMU := by simp [State.writeFr]
@[simp] theorem State.writeFr_gb0 (s : State) (n : Fin 16) (v : Word) : (s.writeFr n v).gb0 = s.gb0 := by simp [State.writeFr]
@[simp] theorem State.writeFr_gb1 (s : State) (n : Fin 16) (v : Word) : (s.writeFr n v).gb1 = s.gb1 := by simp [State.writeFr]
@[simp] theorem State.writeFr_rh (s : State) (n : Fin 16) (v : Word) : (s.writeFr n v).rh = s.rh := by simp [State.writeFr]
@[simp] theorem State.writeFr_gprBank (s : State) (n : Fin 16) (v : Word) : (s.writeFr n v).gprBank = s.gprBank := by simp [State.writeFr]
@[simp] theorem State.writeFr_pc (s : State) (n : Fin 16) (v : Word) : (s.writeFr n v).pc = s.pc := by simp [State.writeFr]
@[simp] theorem State.writeFr_sr (s : State) (n : Fin 16) (v : Word) : (s.writeFr n v).sr = s.sr := by simp [State.writeFr]
@[simp] theorem State.writeFr_ssr (s : State) (n : Fin 16) (v : Word) : (s.writeFr n v).ssr = s.ssr := by simp [State.writeFr]
@[simp] theorem State.writeFr_spc (s : State) (n : Fin 16) (v : Word) : (s.writeFr n v).spc = s.spc := by simp [State.writeFr]
@[simp] theorem State.writeFr_sgr (s : State) (n : Fin 16) (v : Word) : (s.writeFr n v).sgr = s.sgr := by simp [State.writeFr]
@[simp] theorem State.writeFr_dbr (s : State) (n : Fin 16) (v : Word) : (s.writeFr n v).dbr = s.dbr := by simp [State.writeFr]
@[simp] theorem State.writeFr_vbr (s : State) (n : Fin 16) (v : Word) : (s.writeFr n v).vbr = s.vbr := by simp [State.writeFr]
@[simp] theorem State.writeFr_mac (s : State) (n : Fin 16) (v : Word) : (s.writeFr n v).mac = s.mac := by simp [State.writeFr]
@[simp] theorem State.writeFr_pr (s : State) (n : Fin 16) (v : Word) : (s.writeFr n v).pr = s.pr := by simp [State.writeFr]
@[simp] theorem State.writeFr_fpul (s : State) (n : Fin 16) (v : Word) : (s.writeFr n v).fpul = s.fpul := by simp [State.writeFr]
@[simp] theorem State.writeFr_fpscr (s : State) (n : Fin 16) (v : Word) : (s.writeFr n v).fpscr = s.fpscr := by simp [State.writeFr]
@[simp] theorem State.writeFr_oldSr (s : State) (n : Fin 16) (v : Word) : (s.writeFr n v).oldSr = s.oldSr := by simp [State.writeFr]
@[simp] theorem State.writeFr_oldFpscr (s : State) (n : Fin 16) (v : Word) : (s.writeFr n v).oldFpscr = s.oldFpscr := by simp [State.writeFr]
@[simp] theorem State.writeFr_srMode (s : State) (n : Fin 16) (v : Word) : (s.writeFr n v).srMode = s.srMode := by simp [State.writeFr]
@[simp] theorem State.writeFr_fpBank (s : State) (n : Fin 16) (v : Word) : (s.writeFr n v).fpBank = s.fpBank := by simp [State.writeFr]
@[simp] theorem State.writeFr_fpMode (s : State) (n : Fin 16) (v : Word) : (s.writeFr n v).fpMode = s.fpMode := by simp [State.writeFr]
@[simp] theorem State.writeFr_excState (s : State) (n : Fin 16) (v : Word) : (s.writeFr n v).excState = s.excState := by simp [State.writeFr]
@[simp] theorem State.writeFr_expevt (s : State) (n : Fin 16) (v : Word) : (s.writeFr n v).expevt = s.expevt := by simp [State.writeFr]
@[simp] theorem State.writeFr_hostFpctl (s : State) (n : Fin 16) (v : Word) : (s.writeFr n v).hostFpctl = s.hostFpctl := by simp [State.writeFr]
@[simp] theorem State.writeFr_fatal (s : State) (n : Fin 16) (v : Word) : (s.writeFr n v).fatal = s.fatal := by simp [State.writeFr]
@[simp] theorem State.writeFr_fatalReason (s : State) (n : Fin 16) (v : Word) : (s.writeFr n v).fatalReason = s.fatalReason := by simp [State.writeFr]
@[simp] theorem State.writeFr_response (s : State) (n : Fin 16) (v : Word) : (s.writeFr n v).response = s.response := by simp [State.writeFr]
@[simp] theorem State.writeFr_hostErrors (s : State) (n : Fin 16) (v : Word) : (s.writeFr n v).hostErrors = s.hostErrors := by simp [State.writeFr]
@[simp] theorem State.writeFr_inputs (s : State) (n : Fin 16) (v : Word) : (s.writeFr n v).inputs = s.inputs := by simp [State.writeFr]
@[simp] theorem State.writeFr_draws (s : State) (n : Fin 16) (v : Word) : (s.writeFr n v).draws = s.draws := by simp [State.writeFr]

/-! ## writeXf -/

@[simp] theorem State.writeXf_params (s : State) (n : Fin 16) (v : Word) : (s.writeXf n v).params = s.params := by simp [State.writeXf]
@[simp] theorem State.writeXf_fullMMU (s : State) (n : Fin 16) (v : Word) : (s.writeXf n v).fullMMU = s.fullMMU := by simp [State.writeXf]
@[simp] theorem State.writeXf_gb0 (s : State) (n : Fin 16) (v : Word) : (s.writeXf n v).gb0 = s.gb0 := by simp [State.writeXf]
@[simp] theorem State.writeXf_gb1 (s : State) (n : Fin 16) (v : Word) : (s.writeXf n v).gb1 = s.gb1 := by simp [State.writeXf]
@[simp] theorem State.writeXf_rh (s : State) (n : Fin 16) (v : Word) : (s.writeXf n v).rh = s.rh := by simp [State.writeXf]
@[simp] theorem State.writeXf_gprBank (s : State) (n : Fin 16) (v : Word) : (s.writeXf n v).gprBank = s.gprBank := by simp [State.writeXf]
@[simp] theorem State.writeXf_pc (s : State) (n : Fin 16) (v : Word) : (s.writeXf n v).pc = s.pc := by simp [State.writeXf]
@[simp] theorem State.writeXf_sr (s : State) (n : Fin 16) (v : Word) : (s.writeXf n v).sr = s.sr := by simp [State.writeXf]
@[simp] theorem State.writeXf_ssr (s : State) (n : Fin 16) (v : Word) : (s.writeXf n v).ssr = s.ssr := by simp [State.writeXf]
@[simp] theorem State.writeXf_spc (s : State) (n : Fin 16) (v : Word) : (s.writeXf n v).spc = s.spc := by simp [State.writeXf]
@[simp] theorem State.writeXf_sgr (s : State) (n : Fin 16) (v : Word) : (s.writeXf n v).sgr = s.sgr := by simp [State.writeXf]
@[simp] theorem State.writeXf_dbr (s : State) (n : Fin 16) (v : Word) : (s.writeXf n v).dbr = s.dbr := by simp [State.writeXf]
@[simp] theorem State.writeXf_vbr (s : State) (n : Fin 16) (v : Word) : (s.writeXf n v).vbr = s.vbr := by simp [State.writeXf]
@[simp] theorem State.writeXf_mac (s : State) (n : Fin 16) (v : Word) : (s.writeXf n v).mac = s.mac := by simp [State.writeXf]
@[simp] theorem State.writeXf_pr (s : State) (n : Fin 16) (v : Word) : (s.writeXf n v).pr = s.pr := by simp [State.writeXf]
@[simp] theorem State.writeXf_fpul (s : State) (n : Fin 16) (v : Word) : (s.writeXf n v).fpul = s.fpul := by simp [State.writeXf]
@[simp] theorem State.writeXf_fpscr (s : State) (n : Fin 16) (v : Word) : (s.writeXf n v).fpscr = s.fpscr := by simp [State.writeXf]
@[simp] theorem State.writeXf_oldSr (s : State) (n : Fin 16) (v : Word) : (s.writeXf n v).oldSr = s.oldSr := by simp [State.writeXf]
@[simp] theorem State.writeXf_oldFpscr (s : State) (n : Fin 16) (v : Word) : (s.writeXf n v).oldFpscr = s.oldFpscr := by simp [State.writeXf]
@[simp] theorem State.writeXf_srMode (s : State) (n : Fin 16) (v : Word) : (s.writeXf n v).srMode = s.srMode := by simp [State.writeXf]
@[simp] theorem State.writeXf_fpBank (s : State) (n : Fin 16) (v : Word) : (s.writeXf n v).fpBank = s.fpBank := by simp [State.writeXf]
@[simp] theorem State.writeXf_fpMode (s : State) (n : Fin 16) (v : Word) : (s.writeXf n v).fpMode = s.fpMode := by simp [State.writeXf]
@[simp] theorem State.writeXf_excState (s : State) (n : Fin 16) (v : Word) : (s.writeXf n v).excState = s.excState := by simp [State.writeXf]
@[simp] theorem State.writeXf_expevt (s : State) (n : Fin 16) (v : Word) : (s.writeXf n v).expevt = s.expevt := by simp [State.writeXf]
@[simp] theorem State.writeXf_hostFpctl (s : State) (n : Fin 16) (v : Word) : (s.writeXf n v).hostFpctl = s.hostFpctl := by simp [State.writeXf]
@[simp] theorem State.writeXf_fatal (s : State) (n : Fin 16) (v : Word) : (s.writeXf n v).fatal = s.fatal := by simp [State.writeXf]
@[simp] theorem State.writeXf_fatalReason (s : State) (n : Fin 16) (v : Word) : (s.writeXf n v).fatalReason = s.fatalReason := by simp [State.writeXf]
@[simp] theorem State.writeXf_response (s : State) (n : Fin 16) (v : Word) : (s.writeXf n v).response = s.response := by simp [State.writeXf]
@[simp] theorem State.writeXf_hostErrors (s : State) (n : Fin 16) (v : Word) : (s.writeXf n v).hostErrors = s.hostErrors := by simp [State.writeXf]
@[simp] theorem State.writeXf_inputs (s : State) (n : Fin 16) (v : Word) : (s.writeXf n v).inputs = s.inputs := by simp [State.writeXf]
@[simp] theorem State.writeXf_draws (s : State) (n : Fin 16) (v : Word) : (s.writeXf n v).draws = s.draws := by simp [State.writeXf]

/-! ## writeDr -/

@[simp] theorem State.writeDr_params (s : State) (n : Fin 8) (v : DWord) : (s.writeDr n v).params = s.params := by simp [State.writeDr]
@[simp] theorem State.writeDr_fullMMU (s : State) (n : Fin 8) (v : DWord) : (s.writeDr n v).fullMMU = s.fullMMU := by simp [State.writeDr]
@[simp] theorem State.writeDr_gb0 (s : State) (n : Fin 8) (v : DWord) : (s.writeDr n v).gb0 = s.gb0 := by simp [State.writeDr]
@[simp] theorem State.writeDr_gb1 (s : State) (n : Fin 8) (v : DWord) : (s.writeDr n v).gb1 = s.gb1 := by simp [State.writeDr]
@[simp] theorem State.writeDr_rh (s : State) (n : Fin 8) (v : DWord) : (s.writeDr n v).rh = s.rh := by simp [State.writeDr]
@[simp] theorem State.writeDr_gprBank (s : State) (n : Fin 8) (v : DWord) : (s.writeDr n v).gprBank = s.gprBank := by simp [State.writeDr]
@[simp] theorem State.writeDr_pc (s : State) (n : Fin 8) (v : DWord) : (s.writeDr n v).pc = s.pc := by simp [State.writeDr]
@[simp] theorem State.writeDr_sr (s : State) (n : Fin 8) (v : DWord) : (s.writeDr n v).sr = s.sr := by simp [State.writeDr]
@[simp] theorem State.writeDr_ssr (s : State) (n : Fin 8) (v : DWord) : (s.writeDr n v).ssr = s.ssr := by simp [State.writeDr]
@[simp] theorem State.writeDr_spc (s : State) (n : Fin 8) (v : DWord) : (s.writeDr n v).spc = s.spc := by simp [State.writeDr]
@[simp] theorem State.writeDr_sgr (s : State) (n : Fin 8) (v : DWord) : (s.writeDr n v).sgr = s.sgr := by simp [State.writeDr]
@[simp] theorem State.writeDr_dbr (s : State) (n : Fin 8) (v : DWord) : (s.writeDr n v).dbr = s.dbr := by simp [State.writeDr]
@[simp] theorem State.writeDr_vbr (s : State) (n : Fin 8) (v : DWord) : (s.writeDr n v).vbr = s.vbr := by simp [State.writeDr]
@[simp] theorem State.writeDr_mac (s : State) (n : Fin 8) (v : DWord) : (s.writeDr n v).mac = s.mac := by simp [State.writeDr]
@[simp] theorem State.writeDr_pr (s : State) (n : Fin 8) (v : DWord) : (s.writeDr n v).pr = s.pr := by simp [State.writeDr]
@[simp] theorem State.writeDr_fpul (s : State) (n : Fin 8) (v : DWord) : (s.writeDr n v).fpul = s.fpul := by simp [State.writeDr]
@[simp] theorem State.writeDr_fpscr (s : State) (n : Fin 8) (v : DWord) : (s.writeDr n v).fpscr = s.fpscr := by simp [State.writeDr]
@[simp] theorem State.writeDr_oldSr (s : State) (n : Fin 8) (v : DWord) : (s.writeDr n v).oldSr = s.oldSr := by simp [State.writeDr]
@[simp] theorem State.writeDr_oldFpscr (s : State) (n : Fin 8) (v : DWord) : (s.writeDr n v).oldFpscr = s.oldFpscr := by simp [State.writeDr]
@[simp] theorem State.writeDr_srMode (s : State) (n : Fin 8) (v : DWord) : (s.writeDr n v).srMode = s.srMode := by simp [State.writeDr]
@[simp] theorem State.writeDr_fpBank (s : State) (n : Fin 8) (v : DWord) : (s.writeDr n v).fpBank = s.fpBank := by simp [State.writeDr]
@[simp] theorem State.writeDr_fpMode (s : State) (n : Fin 8) (v : DWord) : (s.writeDr n v).fpMode = s.fpMode := by simp [State.writeDr]
@[simp] theorem State.writeDr_excState (s : State) (n : Fin 8) (v : DWord) : (s.writeDr n v).excState = s.excState := by simp [State.writeDr]
@[simp] theorem State.writeDr_expevt (s : State) (n : Fin 8) (v : DWord) : (s.writeDr n v).expevt = s.expevt := by simp [State.writeDr]
@[simp] theorem State.writeDr_hostFpctl (s : State) (n : Fin 8) (v : DWord) : (s.writeDr n v).hostFpctl = s.hostFpctl := by simp [State.writeDr]
@[simp] theorem State.writeDr_fatal (s : State) (n : Fin 8) (v : DWord) : (s.writeDr n v).fatal = s.fatal := by simp [State.writeDr]
@[simp] theorem State.writeDr_fatalReason (s : State) (n : Fin 8) (v : DWord) : (s.writeDr n v).fatalReason = s.fatalReason := by simp [State.writeDr]
@[simp] theorem State.writeDr_response (s : State) (n : Fin 8) (v : DWord) : (s.writeDr n v).response = s.response := by simp [State.writeDr]
@[simp] theorem State.writeDr_hostErrors (s : State) (n : Fin 8) (v : DWord) : (s.writeDr n v).hostErrors = s.hostErrors := by simp [State.writeDr]
@[simp] theorem State.writeDr_inputs (s : State) (n : Fin 8) (v : DWord) : (s.writeDr n v).inputs = s.inputs := by simp [State.writeDr]
@[simp] theorem State.writeDr_draws (s : State) (n : Fin 8) (v : DWord) : (s.writeDr n v).draws = s.draws := by simp [State.writeDr]

/-! ## writeXd -/

@[simp] theorem State.writeXd_params (s : State) (n : Fin 8) (v : DWord) : (s.writeXd n v).params = s.params := by simp [State.writeXd]
@[simp] theorem State.writeXd_fullMMU (s : State) (n : Fin 8) (v : DWord) : (s.writeXd n v).fullMMU = s.fullMMU := by simp [State.writeXd]
@[simp] theorem State.writeXd_gb0 (s : State) (n : Fin 8) (v : DWord) : (s.writeXd n v).gb0 = s.gb0 := by simp [State.writeXd]
@[simp] theorem State.writeXd_gb1 (s : State) (n : Fin 8) (v : DWord) : (s.writeXd n v).gb1 = s.gb1 := by simp [State.writeXd]
@[simp] theorem State.writeXd_rh (s : State) (n : Fin 8) (v : DWord) : (s.writeXd n v).rh = s.rh := by simp [State.writeXd]
@[simp] theorem State.writeXd_gprBank (s : State) (n : Fin 8) (v : DWord) : (s.writeXd n v).gprBank = s.gprBank := by simp [State.writeXd]
@[simp] theorem State.writeXd_pc (s : State) (n : Fin 8) (v : DWord) : (s.writeXd n v).pc = s.pc := by simp [State.writeXd]
@[simp] theorem State.writeXd_sr (s : State) (n : Fin 8) (v : DWord) : (s.writeXd n v).sr = s.sr := by simp [State.writeXd]
@[simp] theorem State.writeXd_ssr (s : State) (n : Fin 8) (v : DWord) : (s.writeXd n v).ssr = s.ssr := by simp [State.writeXd]
@[simp] theorem State.writeXd_spc (s : State) (n : Fin 8) (v : DWord) : (s.writeXd n v).spc = s.spc := by simp [State.writeXd]
@[simp] theorem State.writeXd_sgr (s : State) (n : Fin 8) (v : DWord) : (s.writeXd n v).sgr = s.sgr := by simp [State.writeXd]
@[simp] theorem State.writeXd_dbr (s : State) (n : Fin 8) (v : DWord) : (s.writeXd n v).dbr = s.dbr := by simp [State.writeXd]
@[simp] theorem State.writeXd_vbr (s : State) (n : Fin 8) (v : DWord) : (s.writeXd n v).vbr = s.vbr := by simp [State.writeXd]
@[simp] theorem State.writeXd_mac (s : State) (n : Fin 8) (v : DWord) : (s.writeXd n v).mac = s.mac := by simp [State.writeXd]
@[simp] theorem State.writeXd_pr (s : State) (n : Fin 8) (v : DWord) : (s.writeXd n v).pr = s.pr := by simp [State.writeXd]
@[simp] theorem State.writeXd_fpul (s : State) (n : Fin 8) (v : DWord) : (s.writeXd n v).fpul = s.fpul := by simp [State.writeXd]
@[simp] theorem State.writeXd_fpscr (s : State) (n : Fin 8) (v : DWord) : (s.writeXd n v).fpscr = s.fpscr := by simp [State.writeXd]
@[simp] theorem State.writeXd_oldSr (s : State) (n : Fin 8) (v : DWord) : (s.writeXd n v).oldSr = s.oldSr := by simp [State.writeXd]
@[simp] theorem State.writeXd_oldFpscr (s : State) (n : Fin 8) (v : DWord) : (s.writeXd n v).oldFpscr = s.oldFpscr := by simp [State.writeXd]
@[simp] theorem State.writeXd_srMode (s : State) (n : Fin 8) (v : DWord) : (s.writeXd n v).srMode = s.srMode := by simp [State.writeXd]
@[simp] theorem State.writeXd_fpBank (s : State) (n : Fin 8) (v : DWord) : (s.writeXd n v).fpBank = s.fpBank := by simp [State.writeXd]
@[simp] theorem State.writeXd_fpMode (s : State) (n : Fin 8) (v : DWord) : (s.writeXd n v).fpMode = s.fpMode := by simp [State.writeXd]
@[simp] theorem State.writeXd_excState (s : State) (n : Fin 8) (v : DWord) : (s.writeXd n v).excState = s.excState := by simp [State.writeXd]
@[simp] theorem State.writeXd_expevt (s : State) (n : Fin 8) (v : DWord) : (s.writeXd n v).expevt = s.expevt := by simp [State.writeXd]
@[simp] theorem State.writeXd_hostFpctl (s : State) (n : Fin 8) (v : DWord) : (s.writeXd n v).hostFpctl = s.hostFpctl := by simp [State.writeXd]
@[simp] theorem State.writeXd_fatal (s : State) (n : Fin 8) (v : DWord) : (s.writeXd n v).fatal = s.fatal := by simp [State.writeXd]
@[simp] theorem State.writeXd_fatalReason (s : State) (n : Fin 8) (v : DWord) : (s.writeXd n v).fatalReason = s.fatalReason := by simp [State.writeXd]
@[simp] theorem State.writeXd_response (s : State) (n : Fin 8) (v : DWord) : (s.writeXd n v).response = s.response := by simp [State.writeXd]
@[simp] theorem State.writeXd_hostErrors (s : State) (n : Fin 8) (v : DWord) : (s.writeXd n v).hostErrors = s.hostErrors := by simp [State.writeXd]
@[simp] theorem State.writeXd_inputs (s : State) (n : Fin 8) (v : DWord) : (s.writeXd n v).inputs = s.inputs := by simp [State.writeXd]
@[simp] theorem State.writeXd_draws (s : State) (n : Fin 8) (v : DWord) : (s.writeXd n v).draws = s.draws := by simp [State.writeXd]

/-! ## writeScalar -/

@[simp] theorem State.writeScalar_params (s : State) (x : ScalarReg) (v : Word) : (s.writeScalar x v).params = s.params := by cases x <;> rfl
@[simp] theorem State.writeScalar_fullMMU (s : State) (x : ScalarReg) (v : Word) : (s.writeScalar x v).fullMMU = s.fullMMU := by cases x <;> rfl
@[simp] theorem State.writeScalar_gb0 (s : State) (x : ScalarReg) (v : Word) : (s.writeScalar x v).gb0 = s.gb0 := by cases x <;> rfl
@[simp] theorem State.writeScalar_gb1 (s : State) (x : ScalarReg) (v : Word) : (s.writeScalar x v).gb1 = s.gb1 := by cases x <;> rfl
@[simp] theorem State.writeScalar_rh (s : State) (x : ScalarReg) (v : Word) : (s.writeScalar x v).rh = s.rh := by cases x <;> rfl
@[simp] theorem State.writeScalar_gprBank (s : State) (x : ScalarReg) (v : Word) : (s.writeScalar x v).gprBank = s.gprBank := by cases x <;> rfl
@[simp] theorem State.writeScalar_oldSr (s : State) (x : ScalarReg) (v : Word) : (s.writeScalar x v).oldSr = s.oldSr := by cases x <;> rfl
@[simp] theorem State.writeScalar_oldFpscr (s : State) (x : ScalarReg) (v : Word) : (s.writeScalar x v).oldFpscr = s.oldFpscr := by cases x <;> rfl
@[simp] theorem State.writeScalar_srMode (s : State) (x : ScalarReg) (v : Word) : (s.writeScalar x v).srMode = s.srMode := by cases x <;> rfl
@[simp] theorem State.writeScalar_fb0 (s : State) (x : ScalarReg) (v : Word) : (s.writeScalar x v).fb0 = s.fb0 := by cases x <;> rfl
@[simp] theorem State.writeScalar_fb1 (s : State) (x : ScalarReg) (v : Word) : (s.writeScalar x v).fb1 = s.fb1 := by cases x <;> rfl
@[simp] theorem State.writeScalar_fpBank (s : State) (x : ScalarReg) (v : Word) : (s.writeScalar x v).fpBank = s.fpBank := by cases x <;> rfl
@[simp] theorem State.writeScalar_fpMode (s : State) (x : ScalarReg) (v : Word) : (s.writeScalar x v).fpMode = s.fpMode := by cases x <;> rfl
@[simp] theorem State.writeScalar_excState (s : State) (x : ScalarReg) (v : Word) : (s.writeScalar x v).excState = s.excState := by cases x <;> rfl
@[simp] theorem State.writeScalar_expevt (s : State) (x : ScalarReg) (v : Word) : (s.writeScalar x v).expevt = s.expevt := by cases x <;> rfl
@[simp] theorem State.writeScalar_hostFpctl (s : State) (x : ScalarReg) (v : Word) : (s.writeScalar x v).hostFpctl = s.hostFpctl := by cases x <;> rfl
@[simp] theorem State.writeScalar_fatal (s : State) (x : ScalarReg) (v : Word) : (s.writeScalar x v).fatal = s.fatal := by cases x <;> rfl
@[simp] theorem State.writeScalar_fatalReason (s : State) (x : ScalarReg) (v : Word) : (s.writeScalar x v).fatalReason = s.fatalReason := by cases x <;> rfl
@[simp] theorem State.writeScalar_response (s : State) (x : ScalarReg) (v : Word) : (s.writeScalar x v).response = s.response := by cases x <;> rfl
@[simp] theorem State.writeScalar_hostErrors (s : State) (x : ScalarReg) (v : Word) : (s.writeScalar x v).hostErrors = s.hostErrors := by cases x <;> rfl
@[simp] theorem State.writeScalar_inputs (s : State) (x : ScalarReg) (v : Word) : (s.writeScalar x v).inputs = s.inputs := by cases x <;> rfl
@[simp] theorem State.writeScalar_draws (s : State) (x : ScalarReg) (v : Word) : (s.writeScalar x v).draws = s.draws := by cases x <;> rfl

/-! ## updateSr -/

@[simp] theorem State.updateSr_params (s : State) : (s.updateSr).params = s.params := rfl
@[simp] theorem State.updateSr_fullMMU (s : State) : (s.updateSr).fullMMU = s.fullMMU := rfl
@[simp] theorem State.updateSr_gb0 (s : State) : (s.updateSr).gb0 = s.gb0 := rfl
@[simp] theorem State.updateSr_gb1 (s : State) : (s.updateSr).gb1 = s.gb1 := rfl
@[simp] theorem State.updateSr_rh (s : State) : (s.updateSr).rh = s.rh := rfl
@[simp] theorem State.updateSr_gprBank (s : State) : (s.updateSr).gprBank = bankOf s.params s.sr := rfl
@[simp] theorem State.updateSr_pc (s : State) : (s.updateSr).pc = s.pc := rfl
@[simp] theorem State.updateSr_sr (s : State) : (s.updateSr).sr = s.sr := rfl
@[simp] theorem State.updateSr_ssr (s : State) : (s.updateSr).ssr = s.ssr := rfl
@[simp] theorem State.updateSr_spc (s : State) : (s.updateSr).spc = s.spc := rfl
@[simp] theorem State.updateSr_sgr (s : State) : (s.updateSr).sgr = s.sgr := rfl
@[simp] theorem State.updateSr_dbr (s : State) : (s.updateSr).dbr = s.dbr := rfl
@[simp] theorem State.updateSr_vbr (s : State) : (s.updateSr).vbr = s.vbr := rfl
@[simp] theorem State.updateSr_mac (s : State) : (s.updateSr).mac = s.mac := rfl
@[simp] theorem State.updateSr_pr (s : State) : (s.updateSr).pr = s.pr := rfl
@[simp] theorem State.updateSr_fpul (s : State) : (s.updateSr).fpul = s.fpul := rfl
@[simp] theorem State.updateSr_fpscr (s : State) : (s.updateSr).fpscr = s.fpscr := rfl
@[simp] theorem State.updateSr_oldSr (s : State) : (s.updateSr).oldSr = s.sr := rfl
@[simp] theorem State.updateSr_oldFpscr (s : State) : (s.updateSr).oldFpscr = s.oldFpscr := rfl
@[simp] theorem State.updateSr_srMode (s : State) : (s.updateSr).srMode = srDecode s.params s.sr := rfl
@[simp] theorem State.updateSr_fb0 (s : State) : (s.updateSr).fb0 = s.fb0 := rfl
@[simp] theorem State.updateSr_fb1 (s : State) : (s.updateSr).fb1 = s.fb1 := rfl
@[simp] theorem State.updateSr_fpBank (s : State) : (s.updateSr).fpBank = s.fpBank := rfl
@[simp] theorem State.updateSr_fpMode (s : State) : (s.updateSr).fpMode = s.fpMode := rfl
@[simp] theorem State.updateSr_excState (s : State) : (s.updateSr).excState = s.excState := rfl
@[simp] theorem State.updateSr_expevt (s : State) : (s.updateSr).expevt = s.expevt := rfl
@[simp] theorem State.updateSr_hostFpctl (s : State) : (s.updateSr).hostFpctl = s.hostFpctl := rfl
@[simp] theorem State.updateSr_fatal (s : State) : (s.updateSr).fatal = s.fatal := rfl
@[simp] theorem State.updateSr_fatalReason (s : State) : (s.updateSr).fatalReason = s.fatalReason := rfl
@[simp] theorem State.updateSr_response (s : State) : (s.updateSr).response = s.response := rfl
@[simp] theorem State.updateSr_hostErrors (s : State) : (s.updateSr).hostErrors = s.hostErrors := rfl
@[simp] theorem State.updateSr_inputs (s : State) : (s.updateSr).inputs = s.inputs := rfl
@[simp] theorem State.updateSr_draws (s : State) : (s.updateSr).draws = s.draws := rfl

/-! ## updateFpscr -/

@[simp] theorem State.updateFpscr_params (s : State) : (s.updateFpscr).params = s.params := rfl
@[simp] theorem State.updateFpscr_fullMMU (s : State) : (s.updateFpscr).fullMMU = s.fullMMU := rfl
@[simp] theorem State.updateFpscr_gb0 (s : State) : (s.updateFpscr).gb0 = s.gb0 := rfl
@[simp] theorem State.updateFpscr_gb1 (s : State) : (s.updateFpscr).gb1 = s.gb1 := rfl
@[simp] theorem State.updateFpscr_rh (s : State) : (s.updateFpscr).rh = s.rh := rfl
@[simp] theorem State.updateFpscr_gprBank (s : State) : (s.updateFpscr).gprBank = s.gprBank := rfl
@[simp] theorem State.updateFpscr_pc (s : State) : (s.updateFpscr).pc = s.pc := rfl
@[simp] theorem State.updateFpscr_sr (s : State) : (s.updateFpscr).sr = s.sr := rfl
@[simp] theorem State.updateFpscr_ssr (s : State) : (s.updateFpscr).ssr = s.ssr := rfl
@[simp] theorem State.updateFpscr_spc (s : State) : (s.updateFpscr).spc = s.spc := rfl
@[simp] theorem State.updateFpscr_sgr (s : State) : (s.updateFpscr).sgr = s.sgr := rfl
@[simp] theorem State.updateFpscr_dbr (s : State) : (s.updateFpscr).dbr = s.dbr := rfl
@[simp] theorem State.updateFpscr_vbr (s : State) : (s.updateFpscr).vbr = s.vbr := rfl
@[simp] theorem State.updateFpscr_mac (s : State) : (s.updateFpscr).mac = s.mac := rfl
@[simp] theorem State.updateFpscr_pr (s : State) : (s.updateFpscr).pr = s.pr := rfl
@[simp] theorem State.updateFpscr_fpul (s : State) : (s.updateFpscr).fpul = s.fpul := rfl
@[simp] theorem State.updateFpscr_fpscr (s : State) : (s.updateFpscr).fpscr = s.fpscr := rfl
@[simp] theorem State.updateFpscr_oldSr (s : State) : (s.updateFpscr).oldSr = s.oldSr := rfl
@[simp] theorem State.updateFpscr_oldFpscr (s : State) : (s.updateFpscr).oldFpscr = s.fpscr := rfl
@[simp] theorem State.updateFpscr_srMode (s : State) : (s.updateFpscr).srMode = s.srMode := rfl
@[simp] theorem State.updateFpscr_fb0 (s : State) : (s.updateFpscr).fb0 = s.fb0 := rfl
@[simp] theorem State.updateFpscr_fb1 (s : State) : (s.updateFpscr).fb1 = s.fb1 := rfl
@[simp] theorem State.updateFpscr_fpBank (s : State) : (s.updateFpscr).fpBank = fpbankOf s.params s.fpscr := rfl
@[simp] theorem State.updateFpscr_fpMode (s : State) : (s.updateFpscr).fpMode = fpscrDecode s.params s.fpscr := rfl
@[simp] theorem State.updateFpscr_excState (s : State) : (s.updateFpscr).excState = s.excState := rfl
@[simp] theorem State.updateFpscr_expevt (s : State) : (s.updateFpscr).expevt = s.expevt := rfl
@[simp] theorem State.updateFpscr_hostFpctl (s : State) : (s.updateFpscr).hostFpctl = s.hostFpctl := rfl
@[simp] theorem State.updateFpscr_fatal (s : State) : (s.updateFpscr).fatal = s.fatal := rfl
@[simp] theorem State.updateFpscr_fatalReason (s : State) : (s.updateFpscr).fatalReason = s.fatalReason := rfl
@[simp] theorem State.updateFpscr_response (s : State) : (s.updateFpscr).response = s.response := rfl
@[simp] theorem State.updateFpscr_hostErrors (s : State) : (s.updateFpscr).hostErrors = s.hostErrors := rfl
@[simp] theorem State.updateFpscr_inputs (s : State) : (s.updateFpscr).inputs = s.inputs := rfl
@[simp] theorem State.updateFpscr_draws (s : State) : (s.updateFpscr).draws = s.draws := rfl

/-! ## driveHostFpu -/

@[simp] theorem State.driveHostFpu_params (s : State) : (s.driveHostFpu).params = s.params := by
  unfold State.driveHostFpu; split <;> rfl
@[simp] theorem State.driveHostFpu_fullMMU (s : State) : (s.driveHostFpu).fullMMU = s.fullMMU := by
  unfold State.driveHostFpu; split <;> rfl
@[simp] theorem State.driveHostFpu_gb0 (s : State) : (s.driveHostFpu).gb0 = s.gb0 := by
  unfold State.driveHostFpu; split <;> rfl
@[simp] theorem State.driveHostFpu_gb1 (s : State) : (s.driveHostFpu).gb1 = s.gb1 := by
  unfold State.driveHostFpu; split <;> rfl
@[simp] theorem State.driveHostFpu_rh (s : State) : (s.driveHostFpu).rh = s.rh := by
  unfold State.driveHostFpu; split <;> rfl
@[simp] theorem State.driveHostFpu_gprBank (s : State) : (s.driveHostFpu).gprBank = s.gprBank := by
  unfold State.driveHostFpu; split <;> rfl
@[simp] theorem State.driveHostFpu_pc (s : State) : (s.driveHostFpu).pc = s.pc := by
  unfold State.driveHostFpu; split <;> rfl
@[simp] theorem State.driveHostFpu_sr (s : State) : (s.driveHostFpu).sr = s.sr := by
  unfold State.driveHostFpu; split <;> rfl
@[simp] theorem State.driveHostFpu_ssr (s : State) : (s.driveHostFpu).ssr = s.ssr := by
  unfold State.driveHostFpu; split <;> rfl
@[simp] theorem State.driveHostFpu_spc (s : State) : (s.driveHostFpu).spc = s.spc := by
  unfold State.driveHostFpu; split <;> rfl
@[simp] theorem State.driveHostFpu_sgr (s : State) : (s.driveHostFpu).sgr = s.sgr := by
  unfold State.driveHostFpu; split <;> rfl
@[simp] theorem State.driveHostFpu_dbr (s : State) : (s.driveHostFpu).dbr = s.dbr := by
  unfold State.driveHostFpu; split <;> rfl
@[simp] theorem State.driveHostFpu_vbr (s : State) : (s.driveHostFpu).vbr = s.vbr := by
  unfold State.driveHostFpu; split <;> rfl
@[simp] theorem State.driveHostFpu_mac (s : State) : (s.driveHostFpu).mac = s.mac := by
  unfold State.driveHostFpu; split <;> rfl
@[simp] theorem State.driveHostFpu_pr (s : State) : (s.driveHostFpu).pr = s.pr := by
  unfold State.driveHostFpu; split <;> rfl
@[simp] theorem State.driveHostFpu_fpul (s : State) : (s.driveHostFpu).fpul = s.fpul := by
  unfold State.driveHostFpu; split <;> rfl
@[simp] theorem State.driveHostFpu_fpscr (s : State) : (s.driveHostFpu).fpscr = s.fpscr := by
  unfold State.driveHostFpu; split <;> rfl
@[simp] theorem State.driveHostFpu_oldSr (s : State) : (s.driveHostFpu).oldSr = s.oldSr := by
  unfold State.driveHostFpu; split <;> rfl
@[simp] theorem State.driveHostFpu_oldFpscr (s : State) : (s.driveHostFpu).oldFpscr = s.oldFpscr := by
  unfold State.driveHostFpu; split <;> rfl
@[simp] theorem State.driveHostFpu_srMode (s : State) : (s.driveHostFpu).srMode = s.srMode := by
  unfold State.driveHostFpu; split <;> rfl
@[simp] theorem State.driveHostFpu_fb0 (s : State) : (s.driveHostFpu).fb0 = s.fb0 := by
  unfold State.driveHostFpu; split <;> rfl
@[simp] theorem State.driveHostFpu_fb1 (s : State) : (s.driveHostFpu).fb1 = s.fb1 := by
  unfold State.driveHostFpu; split <;> rfl
@[simp] theorem State.driveHostFpu_fpBank (s : State) : (s.driveHostFpu).fpBank = s.fpBank := by
  unfold State.driveHostFpu; split <;> rfl
@[simp] theorem State.driveHostFpu_fpMode (s : State) : (s.driveHostFpu).fpMode = s.fpMode := by
  unfold State.driveHostFpu; split <;> rfl
@[simp] theorem State.driveHostFpu_excState (s : State) : (s.driveHostFpu).excState = s.excState := by
  unfold State.driveHostFpu; split <;> rfl
@[simp] theorem State.driveHostFpu_expevt (s : State) : (s.driveHostFpu).expevt = s.expevt := by
  unfold State.driveHostFpu; split <;> rfl
@[simp] theorem State.driveHostFpu_hostFpctl (s : State) : (s.driveHostFpu).hostFpctl = if s.params.hostFpuCtl then some (hostFpctlOf s.params s.fpscr) else s.hostFpctl := by
  unfold State.driveHostFpu; split <;> rfl
@[simp] theorem State.driveHostFpu_fatal (s : State) : (s.driveHostFpu).fatal = s.fatal := by
  unfold State.driveHostFpu; split <;> rfl
@[simp] theorem State.driveHostFpu_fatalReason (s : State) : (s.driveHostFpu).fatalReason = s.fatalReason := by
  unfold State.driveHostFpu; split <;> rfl
@[simp] theorem State.driveHostFpu_response (s : State) : (s.driveHostFpu).response = s.response := by
  unfold State.driveHostFpu; split <;> rfl
@[simp] theorem State.driveHostFpu_hostErrors (s : State) : (s.driveHostFpu).hostErrors = s.hostErrors := by
  unfold State.driveHostFpu; split <;> rfl
@[simp] theorem State.driveHostFpu_inputs (s : State) : (s.driveHostFpu).inputs = s.inputs := by
  unfold State.driveHostFpu; split <;> rfl
@[simp] theorem State.driveHostFpu_draws (s : State) : (s.driveHostFpu).draws = s.draws := by
  unfold State.driveHostFpu; split <;> rfl

/-! ## takeException -/

@[simp] theorem State.takeException_params (s : State) (pc evt vec : Word) : (s.takeException pc evt vec).params = s.params := rfl
@[simp] theorem State.takeException_fullMMU (s : State) (pc evt vec : Word) : (s.takeException pc evt vec).fullMMU = s.fullMMU := rfl
@[simp] theorem State.takeException_gb0 (s : State) (pc evt vec : Word) : (s.takeException pc evt vec).gb0 = s.gb0 := rfl
@[simp] theorem State.takeException_gb1 (s : State) (pc evt vec : Word) : (s.takeException pc evt vec).gb1 = s.gb1 := rfl
@[simp] theorem State.takeException_rh (s : State) (pc evt vec : Word) : (s.takeException pc evt vec).rh = s.rh := rfl
@[simp] theorem State.takeException_gprBank (s : State) (pc evt vec : Word) : (s.takeException pc evt vec).gprBank = bankOf s.params (entrySr s.params s.sr) := rfl
@[simp] theorem State.takeException_pc (s : State) (pc evt vec : Word) : (s.takeException pc evt vec).pc = s.handler evt vec := rfl
@[simp] theorem State.takeException_sr (s : State) (pc evt vec : Word) : (s.takeException pc evt vec).sr = entrySr s.params s.sr := rfl
@[simp] theorem State.takeException_ssr (s : State) (pc evt vec : Word) : (s.takeException pc evt vec).ssr = s.sr := rfl
@[simp] theorem State.takeException_spc (s : State) (pc evt vec : Word) : (s.takeException pc evt vec).spc = pc := rfl
@[simp] theorem State.takeException_sgr (s : State) (pc evt vec : Word) : (s.takeException pc evt vec).sgr = if s.params.excSavesSgr then s.readR 15 else s.sgr := rfl
@[simp] theorem State.takeException_dbr (s : State) (pc evt vec : Word) : (s.takeException pc evt vec).dbr = s.dbr := rfl
@[simp] theorem State.takeException_vbr (s : State) (pc evt vec : Word) : (s.takeException pc evt vec).vbr = s.vbr := rfl
@[simp] theorem State.takeException_mac (s : State) (pc evt vec : Word) : (s.takeException pc evt vec).mac = s.mac := rfl
@[simp] theorem State.takeException_pr (s : State) (pc evt vec : Word) : (s.takeException pc evt vec).pr = s.pr := rfl
@[simp] theorem State.takeException_fpul (s : State) (pc evt vec : Word) : (s.takeException pc evt vec).fpul = s.fpul := rfl
@[simp] theorem State.takeException_fpscr (s : State) (pc evt vec : Word) : (s.takeException pc evt vec).fpscr = s.fpscr := rfl
@[simp] theorem State.takeException_oldSr (s : State) (pc evt vec : Word) : (s.takeException pc evt vec).oldSr = entrySr s.params s.sr := rfl
@[simp] theorem State.takeException_oldFpscr (s : State) (pc evt vec : Word) : (s.takeException pc evt vec).oldFpscr = s.oldFpscr := rfl
@[simp] theorem State.takeException_srMode (s : State) (pc evt vec : Word) : (s.takeException pc evt vec).srMode = srDecode s.params (entrySr s.params s.sr) := rfl
@[simp] theorem State.takeException_fb0 (s : State) (pc evt vec : Word) : (s.takeException pc evt vec).fb0 = s.fb0 := rfl
@[simp] theorem State.takeException_fb1 (s : State) (pc evt vec : Word) : (s.takeException pc evt vec).fb1 = s.fb1 := rfl
@[simp] theorem State.takeException_fpBank (s : State) (pc evt vec : Word) : (s.takeException pc evt vec).fpBank = s.fpBank := rfl
@[simp] theorem State.takeException_fpMode (s : State) (pc evt vec : Word) : (s.takeException pc evt vec).fpMode = s.fpMode := rfl
@[simp] theorem State.takeException_excState (s : State) (pc evt vec : Word) : (s.takeException pc evt vec).excState = .normal := rfl
@[simp] theorem State.takeException_expevt (s : State) (pc evt vec : Word) : (s.takeException pc evt vec).expevt = evt := rfl
@[simp] theorem State.takeException_hostFpctl (s : State) (pc evt vec : Word) : (s.takeException pc evt vec).hostFpctl = s.hostFpctl := rfl
@[simp] theorem State.takeException_fatal (s : State) (pc evt vec : Word) : (s.takeException pc evt vec).fatal = s.fatal := rfl
@[simp] theorem State.takeException_fatalReason (s : State) (pc evt vec : Word) : (s.takeException pc evt vec).fatalReason = s.fatalReason := rfl
@[simp] theorem State.takeException_response (s : State) (pc evt vec : Word) : (s.takeException pc evt vec).response = s.response := rfl
@[simp] theorem State.takeException_hostErrors (s : State) (pc evt vec : Word) : (s.takeException pc evt vec).hostErrors = s.hostErrors := rfl
@[simp] theorem State.takeException_inputs (s : State) (pc evt vec : Word) : (s.takeException pc evt vec).inputs = s.inputs := rfl
@[simp] theorem State.takeException_draws (s : State) (pc evt vec : Word) : (s.takeException pc evt vec).draws = s.draws := rfl

end Sys2Proof.Machine
end

