-- ==== Sys2Proof/Laws/Operands.lean ====
section
/-! SUPPORT. Read after write for every view: a write gives its value back and leaves every other element alone. -/

namespace Sys2Proof.Machine

/-! ## General registers -/

theorem State.gb_setGb_same (s : State) (b : Bool) (n : Fin 8) (v : Word) :
    (s.setGb b n v).gb b = (s.gb b).set n.val v := by cases b <;> rfl

theorem State.gb_setGb_other (s : State) {b c : Bool} (h : c ≠ b) (n : Fin 8) (v : Word) :
    (s.setGb b n v).gb c = s.gb c := by cases b <;> cases c <;> simp_all [State.gb, State.setGb]

/-- Writing r[n] is seen at r[n] and nowhere else in the active view (R23, R122). -/
theorem State.readR_writeR (s : State) (n m : Fin 16) (v : Word) :
    (s.writeR n v).readR m = if m = n then v else s.readR m := by
  by_cases hn : n.val < 8 <;> by_cases hm : m.val < 8 <;>
    simp [State.readR, State.writeR, hn, hm, State.gb_setGb_same, Vector.getElem_set, Fin.ext_iff, eq_comm]
  · rintro h; omega
  · simp [State.gb]; rintro h; omega
  · split <;> rename_i h <;> split <;> rename_i h' <;> first | rfl | omega

/-- Writing the active view leaves the inactive bank alone (R122). -/
@[simp] theorem State.readRBank_writeR (s : State) (n : Fin 16) (m : Fin 8) (v : Word) :
    (s.writeR n v).readRBank m = s.readRBank m := by
  by_cases hn : n.val < 8
  · simp [State.readRBank, State.writeR, hn, State.gb_setGb_other]
  · simp [State.readRBank, State.writeR, hn, State.gb]

/-- Writing r_bank[n] is seen at r_bank[n] and nowhere else in the inactive bank (R24, R124). -/
theorem State.readRBank_writeRBank (s : State) (n m : Fin 8) (v : Word) :
    (s.writeRBank n v).readRBank m = if m = n then v else s.readRBank m := by
  simp [State.readRBank, State.writeRBank, State.gb_setGb_same, Vector.getElem_set, Fin.ext_iff, eq_comm]

/-- Writing the inactive bank leaves the active view alone (R124). -/
@[simp] theorem State.readR_writeRBank (s : State) (n : Fin 8) (m : Fin 16) (v : Word) :
    (s.writeRBank n v).readR m = s.readR m := by
  simp [State.readR, State.writeRBank, State.gb_setGb_other]

/-! ## Floating-point views -/

theorem State.fb_setFb_same (s : State) (b : Bool) (n : Fin 16) (v : Word) :
    (s.setFb b n v).fb b = (s.fb b).set n.val v := by cases b <;> rfl

theorem State.fb_setFb_other (s : State) {b c : Bool} (h : c ≠ b) (n : Fin 16) (v : Word) :
    (s.setFb b n v).fb c = s.fb c := by cases b <;> cases c <;> simp_all [State.fb, State.setFb]

theorem State.readFr_writeFr (s : State) (n m : Fin 16) (v : Word) :
    (s.writeFr n v).readFr m = if m = n then v else s.readFr m := by
  simp [State.readFr, State.writeFr, State.fb_setFb_same, Vector.getElem_set, Fin.ext_iff, eq_comm]

@[simp] theorem State.readXf_writeFr (s : State) (n m : Fin 16) (v : Word) :
    (s.writeFr n v).readXf m = s.readXf m := by simp [State.readXf, State.writeFr, State.fb_setFb_other]

theorem State.readXf_writeXf (s : State) (n m : Fin 16) (v : Word) :
    (s.writeXf n v).readXf m = if m = n then v else s.readXf m := by
  simp [State.readXf, State.writeXf, State.fb_setFb_same, Vector.getElem_set, Fin.ext_iff, eq_comm]

@[simp] theorem State.readFr_writeXf (s : State) (n m : Fin 16) (v : Word) :
    (s.writeXf n v).readFr m = s.readFr m := by simp [State.readFr, State.writeXf, State.fb_setFb_other]

@[simp] theorem evenSlot_ne_oddSlot (n m : Fin 8) : evenSlot n ≠ oddSlot m := by
  simp [evenSlot, oddSlot]; omega

@[simp] theorem oddSlot_ne_evenSlot (n m : Fin 8) : oddSlot n ≠ evenSlot m := (evenSlot_ne_oddSlot m n).symm

@[simp] theorem evenSlot_inj {n m : Fin 8} : evenSlot n = evenSlot m ↔ n = m := by
  simp [evenSlot, Fin.ext_iff]

@[simp] theorem oddSlot_inj {n m : Fin 8} : oddSlot n = oddSlot m ↔ n = m := by
  simp [oddSlot, Fin.ext_iff]

/-- What SETDR n leaves in each slot of the primary set (R166). -/
theorem State.readFr_writeDr (s : State) (n : Fin 8) (m : Fin 16) (v : DWord) :
    (s.writeDr n v).readFr m =
      if m = oddSlot n then loWord v else if m = evenSlot n then hiWord v else s.readFr m := by
  simp [State.writeDr, State.readFr_writeFr]

@[simp] theorem State.readXf_writeDr (s : State) (n : Fin 8) (m : Fin 16) (v : DWord) :
    (s.writeDr n v).readXf m = s.readXf m := by simp [State.writeDr]

/-- What SETXD n leaves in each slot of the extended set (R168). -/
theorem State.readXf_writeXd (s : State) (n : Fin 8) (m : Fin 16) (v : DWord) :
    (s.writeXd n v).readXf m =
      if m = oddSlot n then loWord v else if m = evenSlot n then hiWord v else s.readXf m := by
  simp [State.writeXd, State.readXf_writeXf]

@[simp] theorem State.readFr_writeXd (s : State) (n : Fin 8) (m : Fin 16) (v : DWord) :
    (s.writeXd n v).readFr m = s.readFr m := by simp [State.writeXd]

/-- A double reads back what was written, and its neighbours keep their value (R50, R166). -/
theorem State.readDr_writeDr (s : State) (n m : Fin 8) (v : DWord) :
    (s.writeDr n v).readDr m = if m = n then v else s.readDr m := by
  by_cases h : m = n <;> simp [State.readDr, State.readFr_writeDr, h]

theorem State.readXd_writeXd (s : State) (n m : Fin 8) (v : DWord) :
    (s.writeXd n v).readXd m = if m = n then v else s.readXd m := by
  by_cases h : m = n <;> simp [State.readXd, State.readXf_writeXd, h]

/-- The views depend on the storage and the bank bit alone, so an answer changes none of them. -/
@[simp] theorem State.readR_answer (s : State) (r : Response) (n : Fin 16) : (s.answer r).readR n = s.readR n := rfl

@[simp] theorem State.readRBank_answer (s : State) (r : Response) (n : Fin 8) :
    (s.answer r).readRBank n = s.readRBank n := rfl

@[simp] theorem State.readFr_answer (s : State) (r : Response) (n : Fin 16) : (s.answer r).readFr n = s.readFr n := rfl

@[simp] theorem State.readXf_answer (s : State) (r : Response) (n : Fin 16) : (s.answer r).readXf n = s.readXf n := rfl

@[simp] theorem State.readDr_answer (s : State) (r : Response) (n : Fin 8) : (s.answer r).readDr n = s.readDr n := rfl

@[simp] theorem State.readXd_answer (s : State) (r : Response) (n : Fin 8) : (s.answer r).readXd n = s.readXd n := rfl

/-- A scalar register reads back what its write leaves in it (R126 to R148). -/
theorem State.readScalar_writeScalar (s : State) (x : ScalarReg) (v : Word) :
    (s.writeScalar x v).readScalar x =
      match x with
      | .sr => maskSr s.params v
      | .fpscr => maskFpscr s.params v
      | _ => v := by
  cases x <;> simp [State.writeScalar, State.readScalar, State.mach, State.macl]

/-- Writing one scalar register leaves every other one alone, MACH and MACL included. -/
theorem State.readScalar_writeScalar_ne (s : State) {x y : ScalarReg} (h : y ≠ x) (v : Word) :
    (s.writeScalar x v).readScalar y = s.readScalar y := by
  cases x <;> cases y <;> simp_all [State.writeScalar, State.readScalar, State.mach, State.macl]

end Sys2Proof.Machine
end

