-- ==== Sys2Proof/Laws/PerInstr.lean ====
section
/-! SUPPORT. What is said of every operation as syntax, one lemma per constructor: its encoding lies in its own row of the
opcode table. -/

namespace Sys2Proof.Laws.EncodesItsRow

/-- The command word of an operation's encoding matches the row of the table it belongs to (R99, R101). -/
def Statement (i : Instr) : Prop := (rowOf i).hits (encode i).cmd = true

theorem getr (n : Fin 16) : Statement (.getr n) := by
  show Row.hits ⟨_, 0x1000, 0xFFF0⟩ (cmdOf 0x10 n.val) = true
  revert n; decide

theorem setr (n : Fin 16) (v : Word) : Statement (.setr n v) := by
  show Row.hits ⟨_, 0x1100, 0xFFF0⟩ (cmdOf 0x11 n.val) = true
  revert n; decide

theorem getrb (n : Fin 8) : Statement (.getrb n) := by
  show Row.hits ⟨_, 0x1200, 0xFFF8⟩ (cmdOf 0x12 n.val) = true
  revert n; decide

theorem setrb (n : Fin 8) (v : Word) : Statement (.setrb n v) := by
  show Row.hits ⟨_, 0x1300, 0xFFF8⟩ (cmdOf 0x13 n.val) = true
  revert n; decide

theorem getSr : Statement (.getSr) := by
  show Row.hits ⟨_, 0x1400, 0xFFFF⟩ (cmdOf 0x14 0x00) = true
  decide

theorem getSsr : Statement (.getSsr) := by
  show Row.hits ⟨_, 0x1401, 0xFFFF⟩ (cmdOf 0x14 0x01) = true
  decide

theorem getSpc : Statement (.getSpc) := by
  show Row.hits ⟨_, 0x1402, 0xFFFF⟩ (cmdOf 0x14 0x02) = true
  decide

theorem getSgr : Statement (.getSgr) := by
  show Row.hits ⟨_, 0x1403, 0xFFFF⟩ (cmdOf 0x14 0x03) = true
  decide

theorem getDbr : Statement (.getDbr) := by
  show Row.hits ⟨_, 0x1404, 0xFFFF⟩ (cmdOf 0x14 0x04) = true
  decide

theorem getVbr : Statement (.getVbr) := by
  show Row.hits ⟨_, 0x1405, 0xFFFF⟩ (cmdOf 0x14 0x05) = true
  decide

theorem getPr : Statement (.getPr) := by
  show Row.hits ⟨_, 0x1406, 0xFFFF⟩ (cmdOf 0x14 0x06) = true
  decide

theorem getFpul : Statement (.getFpul) := by
  show Row.hits ⟨_, 0x1407, 0xFFFF⟩ (cmdOf 0x14 0x07) = true
  decide

theorem getPc : Statement (.getPc) := by
  show Row.hits ⟨_, 0x1408, 0xFFFF⟩ (cmdOf 0x14 0x08) = true
  decide

theorem getFpscr : Statement (.getFpscr) := by
  show Row.hits ⟨_, 0x1409, 0xFFFF⟩ (cmdOf 0x14 0x09) = true
  decide

theorem getMach : Statement (.getMach) := by
  show Row.hits ⟨_, 0x140A, 0xFFFF⟩ (cmdOf 0x14 0x0A) = true
  decide

theorem getMacl : Statement (.getMacl) := by
  show Row.hits ⟨_, 0x140B, 0xFFFF⟩ (cmdOf 0x14 0x0B) = true
  decide

theorem getExpevt : Statement (.getExpevt) := by
  show Row.hits ⟨_, 0x140E, 0xFFFF⟩ (cmdOf 0x14 0x0E) = true
  decide

theorem setSr (v : Word) : Statement (.setSr v) := by
  show Row.hits ⟨_, 0x1500, 0xFFFF⟩ (cmdOf 0x15 0x00) = true
  decide

theorem setSsr (v : Word) : Statement (.setSsr v) := by
  show Row.hits ⟨_, 0x1501, 0xFFFF⟩ (cmdOf 0x15 0x01) = true
  decide

theorem setSpc (v : Word) : Statement (.setSpc v) := by
  show Row.hits ⟨_, 0x1502, 0xFFFF⟩ (cmdOf 0x15 0x02) = true
  decide

theorem setSgr (v : Word) : Statement (.setSgr v) := by
  show Row.hits ⟨_, 0x1503, 0xFFFF⟩ (cmdOf 0x15 0x03) = true
  decide

theorem setDbr (v : Word) : Statement (.setDbr v) := by
  show Row.hits ⟨_, 0x1504, 0xFFFF⟩ (cmdOf 0x15 0x04) = true
  decide

theorem setVbr (v : Word) : Statement (.setVbr v) := by
  show Row.hits ⟨_, 0x1505, 0xFFFF⟩ (cmdOf 0x15 0x05) = true
  decide

theorem setPr (v : Word) : Statement (.setPr v) := by
  show Row.hits ⟨_, 0x1506, 0xFFFF⟩ (cmdOf 0x15 0x06) = true
  decide

theorem setFpul (v : Word) : Statement (.setFpul v) := by
  show Row.hits ⟨_, 0x1507, 0xFFFF⟩ (cmdOf 0x15 0x07) = true
  decide

theorem setPc (v : Word) : Statement (.setPc v) := by
  show Row.hits ⟨_, 0x1508, 0xFFFF⟩ (cmdOf 0x15 0x08) = true
  decide

theorem setFpscr (v : Word) : Statement (.setFpscr v) := by
  show Row.hits ⟨_, 0x1509, 0xFFFF⟩ (cmdOf 0x15 0x09) = true
  decide

theorem setMach (v : Word) : Statement (.setMach v) := by
  show Row.hits ⟨_, 0x150A, 0xFFFF⟩ (cmdOf 0x15 0x0A) = true
  decide

theorem setMacl (v : Word) : Statement (.setMacl v) := by
  show Row.hits ⟨_, 0x150B, 0xFFFF⟩ (cmdOf 0x15 0x0B) = true
  decide

theorem getmac : Statement (.getmac) := by
  show Row.hits ⟨_, 0x1600, 0xFFFF⟩ (cmdOf 0x16 0x00) = true
  decide

theorem setmac (v : DWord) : Statement (.setmac v) := by
  show Row.hits ⟨_, 0x1700, 0xFFFF⟩ (cmdOf 0x17 0x00) = true
  decide

theorem dbgPeekR (n : Fin 16) : Statement (.dbgPeekR n) := by
  show Row.hits ⟨_, 0x1800, 0xFFF0⟩ (cmdOf 0x18 n.val) = true
  revert n; decide

theorem dbgPeekRBank (n : Fin 8) : Statement (.dbgPeekRBank n) := by
  show Row.hits ⟨_, 0x1810, 0xFFF8⟩ (cmdOf 0x18 (16 + n.val)) = true
  revert n; decide

theorem dbgPeekScalarLo (id : Fin 8) : Statement (.dbgPeekScalarLo id) := by
  show Row.hits ⟨_, 0x1820, 0xFFF8⟩ (cmdOf 0x18 (32 + id.val)) = true
  revert id; decide

theorem dbgPeekScalarHi (id : Fin 4) : Statement (.dbgPeekScalarHi id) := by
  show Row.hits ⟨_, 0x1828, 0xFFFC⟩ (cmdOf 0x18 (40 + id.val)) = true
  revert id; decide

theorem dbgPeekShadow (id : Fin 2) : Statement (.dbgPeekShadow id) := by
  show Row.hits ⟨_, 0x182C, 0xFFFE⟩ (cmdOf 0x18 (44 + id.val)) = true
  revert id; decide

theorem dbgPeekExpevt : Statement (.dbgPeekExpevt) := by
  show Row.hits ⟨_, 0x182E, 0xFFFF⟩ (cmdOf 0x18 0x2E) = true
  decide

theorem dbgPeekFr (n : Fin 16) : Statement (.dbgPeekFr n) := by
  show Row.hits ⟨_, 0x1840, 0xFFF0⟩ (cmdOf 0x18 (64 + n.val)) = true
  revert n; decide

theorem dbgPeekXf (n : Fin 16) : Statement (.dbgPeekXf n) := by
  show Row.hits ⟨_, 0x1850, 0xFFF0⟩ (cmdOf 0x18 (80 + n.val)) = true
  revert n; decide

theorem dbgPokeR (n : Fin 16) (v : Word) : Statement (.dbgPokeR n v) := by
  show Row.hits ⟨_, 0x1900, 0xFFF0⟩ (cmdOf 0x19 n.val) = true
  revert n; decide

theorem dbgPokeRBank (n : Fin 8) (v : Word) : Statement (.dbgPokeRBank n v) := by
  show Row.hits ⟨_, 0x1910, 0xFFF8⟩ (cmdOf 0x19 (16 + n.val)) = true
  revert n; decide

theorem dbgPokeScalarLo (id : Fin 8) (v : Word) : Statement (.dbgPokeScalarLo id v) := by
  show Row.hits ⟨_, 0x1920, 0xFFF8⟩ (cmdOf 0x19 (32 + id.val)) = true
  revert id; decide

theorem dbgPokeScalarHi (id : Fin 4) (v : Word) : Statement (.dbgPokeScalarHi id v) := by
  show Row.hits ⟨_, 0x1928, 0xFFFC⟩ (cmdOf 0x19 (40 + id.val)) = true
  revert id; decide

theorem dbgPokeFr (n : Fin 16) (v : Word) : Statement (.dbgPokeFr n v) := by
  show Row.hits ⟨_, 0x1940, 0xFFF0⟩ (cmdOf 0x19 (64 + n.val)) = true
  revert n; decide

theorem dbgPokeXf (n : Fin 16) (v : Word) : Statement (.dbgPokeXf n v) := by
  show Row.hits ⟨_, 0x1950, 0xFFF0⟩ (cmdOf 0x19 (80 + n.val)) = true
  revert n; decide

theorem getfr (n : Fin 16) : Statement (.getfr n) := by
  show Row.hits ⟨_, 0x2000, 0xFFF0⟩ (cmdOf 0x20 n.val) = true
  revert n; decide

theorem setfr (n : Fin 16) (v : Word) : Statement (.setfr n v) := by
  show Row.hits ⟨_, 0x2100, 0xFFF0⟩ (cmdOf 0x21 n.val) = true
  revert n; decide

theorem getxf (n : Fin 16) : Statement (.getxf n) := by
  show Row.hits ⟨_, 0x2200, 0xFFF0⟩ (cmdOf 0x22 n.val) = true
  revert n; decide

theorem setxf (n : Fin 16) (v : Word) : Statement (.setxf n v) := by
  show Row.hits ⟨_, 0x2300, 0xFFF0⟩ (cmdOf 0x23 n.val) = true
  revert n; decide

theorem getdr (n : Fin 8) : Statement (.getdr n) := by
  show Row.hits ⟨_, 0x2400, 0xFFF8⟩ (cmdOf 0x24 n.val) = true
  revert n; decide

theorem setdr (n : Fin 8) (v : DWord) : Statement (.setdr n v) := by
  show Row.hits ⟨_, 0x2500, 0xFFF8⟩ (cmdOf 0x25 n.val) = true
  revert n; decide

theorem getxd (n : Fin 8) : Statement (.getxd n) := by
  show Row.hits ⟨_, 0x2600, 0xFFF8⟩ (cmdOf 0x26 n.val) = true
  revert n; decide

theorem setxd (n : Fin 8) (v : DWord) : Statement (.setxd n v) := by
  show Row.hits ⟨_, 0x2700, 0xFFF8⟩ (cmdOf 0x27 n.val) = true
  revert n; decide

theorem fixnan (v : Word) : Statement (.fixnan v) := by
  show Row.hits ⟨_, 0x2800, 0xFFFF⟩ (cmdOf 0x28 0x00) = true
  decide

theorem fixnan64 (v : DWord) : Statement (.fixnan64 v) := by
  show Row.hits ⟨_, 0x2900, 0xFFFF⟩ (cmdOf 0x29 0x00) = true
  decide

theorem updsr : Statement (.updsr) := by
  show Row.hits ⟨_, 0x3000, 0xFFFF⟩ (cmdOf 0x30 0x00) = true
  decide

theorem updfpscr : Statement (.updfpscr) := by
  show Row.hits ⟨_, 0x3100, 0xFFFF⟩ (cmdOf 0x31 0x00) = true
  decide

theorem setfsr : Statement (.setfsr) := by
  show Row.hits ⟨_, 0x3200, 0xFFFF⟩ (cmdOf 0x32 0x00) = true
  decide

theorem doexc (pc evt vec : Word) : Statement (.doexc pc evt vec) := by
  show Row.hits ⟨_, 0x4000, 0xFFFF⟩ (cmdOf 0x40 0x00) = true
  decide

theorem raisefpudis : Statement (.raisefpudis) := by
  show Row.hits ⟨_, 0x4100, 0xFFFF⟩ (cmdOf 0x41 0x00) = true
  decide

theorem adjslot (epc evt vec : Word) : Statement (.adjslot epc evt vec) := by
  show Row.hits ⟨_, 0x4200, 0xFFFF⟩ (cmdOf 0x42 0x00) = true
  decide

end Sys2Proof.Laws.EncodesItsRow
end

