-- ==== Sys2Proof/Laws/Step.lean ====
section
/-! SUPPORT. What a step can do, said once: every operation is guarded by the stopped check, its effect is one of a few
shared updates, and a step takes one input. -/

namespace Sys2Proof.Machine

/-! ## The common check -/

/-- A running block performs the operation (R120). -/
@[simp] theorem complete_running {s : State} (h : s.fatal = false) (op : State → State) :
    complete s op = .next (op s) := by simp [complete, h]

/-- A stopped block answers FATAL and nothing else (R103). -/
@[simp] theorem complete_stopped {s : State} (h : s.fatal = true) (op : State → State) :
    complete s op = .next (s.answer .stopped) := by simp [complete, h]

/-- Whatever the operation, the result is a next state. -/
theorem complete_eq_next {s t : State} {op : State → State} (h : complete s op = .next t) :
    (s.fatal = true ∧ t = s.answer .stopped) ∨ (s.fatal = false ∧ t = op s) := by
  cases hf : s.fatal <;> simp [hf] at h <;> simp [h]

/-- The answer of a running block is what the operation does. -/
theorem complete_inj {s t : State} {op : State → State} (hf : s.fatal = false) (h : complete s op = .next t) :
    op s = t := by simpa [hf] using h

/-! ## What an operation can do -/

/-- Every way an operation can change the state, guards included: `t` is one of the shared updates of `s`, answered. -/
inductive Effect (i : Instr) (s : State) : State → Prop where
  | stopped (h : s.fatal = true) : Effect i s (s.answer .stopped)
  | read (r : Response) (h : s.fatal = false) : Effect i s (s.answer r)
  | writeR (n : Fin 16) (v : Word) (h : s.fatal = false) (hi : i = .setr n v ∨ i = .dbgPokeR n v) :
      Effect i s (s.writeR n v).ok
  | writeRBank (n : Fin 8) (v : Word) (h : s.fatal = false) (hi : i = .setrb n v ∨ i = .dbgPokeRBank n v) :
      Effect i s (s.writeRBank n v).ok
  | writeScalar (x : ScalarReg) (v : Word) (h : s.fatal = false)
      (hpc : x = .pc → i = .setPc v ∨ i = .dbgPokeScalarHi 0 v) : Effect i s (s.writeScalar x v).ok
  | writeMac (v : DWord) (h : s.fatal = false) (hi : i = .setmac v) : Effect i s (State.ok { s with mac := v })
  | writeFr (n : Fin 16) (v : Word) (h : s.fatal = false) (hi : i = .setfr n v ∨ i = .dbgPokeFr n v) :
      Effect i s (s.writeFr n v).ok
  | writeXf (n : Fin 16) (v : Word) (h : s.fatal = false) (hi : i = .setxf n v ∨ i = .dbgPokeXf n v) :
      Effect i s (s.writeXf n v).ok
  | writeDr (n : Fin 8) (v : DWord) (h : s.fatal = false) (hi : i = .setdr n v) : Effect i s (s.writeDr n v).ok
  | writeXd (n : Fin 8) (v : DWord) (h : s.fatal = false) (hi : i = .setxd n v) : Effect i s (s.writeXd n v).ok
  | updsr (h : s.fatal = false) (hi : i = .updsr) : Effect i s (s.updateSr.okQ (if s.bankChanged then 1 else 0))
  | updfpscr (h : s.fatal = false) (hi : i = .updfpscr) : Effect i s s.updateFpscr.ok
  | setfsr (h : s.fatal = false) (hi : i = .setfsr) : Effect i s s.driveHostFpu.ok
  | delivered (pc evt vec : Word) (h : s.fatal = false) (hi : i = .doexc pc evt vec)
      (hr : s.refusesDelivery evt = false) (hn : s.isNested evt = false) :
      Effect i s (s.takeException pc evt vec).ok
  | nested (pc evt vec : Word) (h : s.fatal = false) (hi : i = .doexc pc evt vec) (hn : s.isNested evt = true) :
      Effect i s (s.stop .nested)
  | mmuConfig (h : s.fatal = false) (hi : i = .raisefpudis) (hm : s.fullMMU = false) : Effect i s (s.stop .mmuConfig)

/-- The inversion of `exec`: whatever it answers is a next state reached by one of the effects. -/
theorem exec_cases {i : Instr} {s t : State} (h : exec i s = .next t) : Effect i s t := by
  cases hf : s.fatal with
  | true =>
    suffices hs : exec i s = .next (s.answer .stopped) by
      obtain rfl := Host.Outcome.next.inj (hs.symm.trans h)
      exact .stopped hf
    cases i <;> simp only [exec, complete_stopped hf,
      execGetr, execSetr, execGetrb, execSetrb, execGetSr, execGetSsr, execGetSpc, execGetSgr, execGetDbr,
      execGetVbr, execGetPr, execGetFpul, execGetPc, execGetFpscr, execGetMach, execGetMacl, execGetExpevt,
      execSetSr, execSetSsr, execSetSpc, execSetSgr, execSetDbr, execSetVbr, execSetPr, execSetFpul, execSetPc,
      execSetFpscr, execSetMach, execSetMacl, execGetmac, execSetmac, execDbgPeekR, execDbgPeekRBank,
      execDbgPeekScalarLo, execDbgPeekScalarHi, execDbgPeekShadow, execDbgPeekExpevt, execDbgPeekFr,
      execDbgPeekXf, execDbgPokeR, execDbgPokeRBank, execDbgPokeScalarLo, execDbgPokeScalarHi, execDbgPokeFr,
      execDbgPokeXf, execGetfr, execSetfr, execGetxf, execSetxf, execGetdr, execSetdr, execGetxd, execSetxd,
      execFixnan, execFixnan64, execUpdsr, execUpdfpscr, execSetfsr, execDoexc, execRaisefpudis, execAdjslot]
  | false =>
    cases i with
    | doexc pc evt vec =>
      have h : (if s.refusesDelivery evt then s.answer .failed
          else if s.isNested evt then s.stop .nested else (s.takeException pc evt vec).ok) = t :=
        complete_inj (op := fun s => if s.refusesDelivery evt then s.answer .failed
          else if s.isNested evt then s.stop .nested else (s.takeException pc evt vec).ok) hf h
      split at h
      · subst h; exact .read _ hf
      · rename_i hr
        split at h
        · rename_i hn; subst h; exact .nested pc evt vec hf rfl hn
        · rename_i hn; subst h; exact .delivered pc evt vec hf rfl (by simpa using hr) (by simpa using hn)
    | raisefpudis =>
      have h : (if s.fullMMU then s.answer (.thrownTriple (s.pc - s.params.ilen) 0x800 0x100)
          else s.stop .mmuConfig) = t :=
        complete_inj (op := fun s => if s.fullMMU then s.answer (.thrownTriple (s.pc - s.params.ilen) 0x800 0x100)
          else s.stop .mmuConfig) hf h
      split at h
      · subst h; exact .read _ hf
      · rename_i hm; subst h; exact .mmuConfig hf rfl (by simpa using hm)
    | setr n v =>
      obtain rfl := complete_inj hf (show execSetr n v s = .next t from h)
      exact .writeR n v hf (by simp)
    | dbgPokeR n v =>
      obtain rfl := complete_inj hf (show execDbgPokeR n v s = .next t from h)
      exact .writeR n v hf (by simp)
    | setrb n v =>
      obtain rfl := complete_inj hf (show execSetrb n v s = .next t from h)
      exact .writeRBank n v hf (by simp)
    | dbgPokeRBank n v =>
      obtain rfl := complete_inj hf (show execDbgPokeRBank n v s = .next t from h)
      exact .writeRBank n v hf (by simp)
    | setfr n v =>
      obtain rfl := complete_inj hf (show execSetfr n v s = .next t from h)
      exact .writeFr n v hf (by simp)
    | dbgPokeFr n v =>
      obtain rfl := complete_inj hf (show execDbgPokeFr n v s = .next t from h)
      exact .writeFr n v hf (by simp)
    | setxf n v =>
      obtain rfl := complete_inj hf (show execSetxf n v s = .next t from h)
      exact .writeXf n v hf (by simp)
    | dbgPokeXf n v =>
      obtain rfl := complete_inj hf (show execDbgPokeXf n v s = .next t from h)
      exact .writeXf n v hf (by simp)
    | setdr n v =>
      obtain rfl := complete_inj hf (show execSetdr n v s = .next t from h)
      exact .writeDr n v hf rfl
    | setxd n v =>
      obtain rfl := complete_inj hf (show execSetxd n v s = .next t from h)
      exact .writeXd n v hf rfl
    | setmac v =>
      obtain rfl := complete_inj hf (show execSetmac v s = .next t from h)
      exact .writeMac v hf rfl
    | updsr =>
      obtain rfl := complete_inj hf (show execUpdsr s = .next t from h)
      exact .updsr hf rfl
    | updfpscr =>
      obtain rfl := complete_inj hf (show execUpdfpscr s = .next t from h)
      exact .updfpscr hf rfl
    | setfsr =>
      obtain rfl := complete_inj hf (show execSetfsr s = .next t from h)
      exact .setfsr hf rfl
    | setSr v =>
      obtain rfl := complete_inj hf (show execSetSr v s = .next t from h)
      exact .writeScalar _ v hf (by simp)
    | setSsr v =>
      obtain rfl := complete_inj hf (show execSetSsr v s = .next t from h)
      exact .writeScalar _ v hf (by simp)
    | setSpc v =>
      obtain rfl := complete_inj hf (show execSetSpc v s = .next t from h)
      exact .writeScalar _ v hf (by simp)
    | setSgr v =>
      obtain rfl := complete_inj hf (show execSetSgr v s = .next t from h)
      exact .writeScalar _ v hf (by simp)
    | setDbr v =>
      obtain rfl := complete_inj hf (show execSetDbr v s = .next t from h)
      exact .writeScalar _ v hf (by simp)
    | setVbr v =>
      obtain rfl := complete_inj hf (show execSetVbr v s = .next t from h)
      exact .writeScalar _ v hf (by simp)
    | setPr v =>
      obtain rfl := complete_inj hf (show execSetPr v s = .next t from h)
      exact .writeScalar _ v hf (by simp)
    | setFpul v =>
      obtain rfl := complete_inj hf (show execSetFpul v s = .next t from h)
      exact .writeScalar _ v hf (by simp)
    | setPc v =>
      obtain rfl := complete_inj hf (show execSetPc v s = .next t from h)
      exact .writeScalar _ v hf (by simp)
    | setFpscr v =>
      obtain rfl := complete_inj hf (show execSetFpscr v s = .next t from h)
      exact .writeScalar _ v hf (by simp)
    | setMach v =>
      obtain rfl := complete_inj hf (show execSetMach v s = .next t from h)
      exact .writeScalar _ v hf (by simp)
    | setMacl v =>
      obtain rfl := complete_inj hf (show execSetMacl v s = .next t from h)
      exact .writeScalar _ v hf (by simp)
    | dbgPokeScalarLo id v =>
      obtain rfl := complete_inj hf (show execDbgPokeScalarLo id v s = .next t from h)
      exact .writeScalar _ v hf fun hpc => absurd hpc (by clear h; revert id; decide)
    | dbgPokeScalarHi id v =>
      obtain rfl := complete_inj hf (show execDbgPokeScalarHi id v s = .next t from h)
      refine .writeScalar _ v hf fun hpc => .inr ?_
      congr 1
      clear h
      revert id; decide
    | getr n =>
      obtain rfl := complete_inj hf (show execGetr n s = .next t from h)
      exact .read _ hf
    | getrb n =>
      obtain rfl := complete_inj hf (show execGetrb n s = .next t from h)
      exact .read _ hf
    | getSr =>
      obtain rfl := complete_inj hf (show execGetSr s = .next t from h)
      exact .read _ hf
    | getSsr =>
      obtain rfl := complete_inj hf (show execGetSsr s = .next t from h)
      exact .read _ hf
    | getSpc =>
      obtain rfl := complete_inj hf (show execGetSpc s = .next t from h)
      exact .read _ hf
    | getSgr =>
      obtain rfl := complete_inj hf (show execGetSgr s = .next t from h)
      exact .read _ hf
    | getDbr =>
      obtain rfl := complete_inj hf (show execGetDbr s = .next t from h)
      exact .read _ hf
    | getVbr =>
      obtain rfl := complete_inj hf (show execGetVbr s = .next t from h)
      exact .read _ hf
    | getPr =>
      obtain rfl := complete_inj hf (show execGetPr s = .next t from h)
      exact .read _ hf
    | getFpul =>
      obtain rfl := complete_inj hf (show execGetFpul s = .next t from h)
      exact .read _ hf
    | getPc =>
      obtain rfl := complete_inj hf (show execGetPc s = .next t from h)
      exact .read _ hf
    | getFpscr =>
      obtain rfl := complete_inj hf (show execGetFpscr s = .next t from h)
      exact .read _ hf
    | getMach =>
      obtain rfl := complete_inj hf (show execGetMach s = .next t from h)
      exact .read _ hf
    | getMacl =>
      obtain rfl := complete_inj hf (show execGetMacl s = .next t from h)
      exact .read _ hf
    | getExpevt =>
      obtain rfl := complete_inj hf (show execGetExpevt s = .next t from h)
      exact .read _ hf
    | getmac =>
      obtain rfl := complete_inj hf (show execGetmac s = .next t from h)
      exact .read _ hf
    | dbgPeekR n =>
      obtain rfl := complete_inj hf (show execDbgPeekR n s = .next t from h)
      exact .read _ hf
    | dbgPeekRBank n =>
      obtain rfl := complete_inj hf (show execDbgPeekRBank n s = .next t from h)
      exact .read _ hf
    | dbgPeekScalarLo id =>
      obtain rfl := complete_inj hf (show execDbgPeekScalarLo id s = .next t from h)
      exact .read _ hf
    | dbgPeekScalarHi id =>
      obtain rfl := complete_inj hf (show execDbgPeekScalarHi id s = .next t from h)
      exact .read _ hf
    | dbgPeekShadow id =>
      obtain rfl := complete_inj hf (show execDbgPeekShadow id s = .next t from h)
      exact .read _ hf
    | dbgPeekExpevt =>
      obtain rfl := complete_inj hf (show execDbgPeekExpevt s = .next t from h)
      exact .read _ hf
    | dbgPeekFr n =>
      obtain rfl := complete_inj hf (show execDbgPeekFr n s = .next t from h)
      exact .read _ hf
    | dbgPeekXf n =>
      obtain rfl := complete_inj hf (show execDbgPeekXf n s = .next t from h)
      exact .read _ hf
    | getfr n =>
      obtain rfl := complete_inj hf (show execGetfr n s = .next t from h)
      exact .read _ hf
    | getxf n =>
      obtain rfl := complete_inj hf (show execGetxf n s = .next t from h)
      exact .read _ hf
    | getdr n =>
      obtain rfl := complete_inj hf (show execGetdr n s = .next t from h)
      exact .read _ hf
    | getxd n =>
      obtain rfl := complete_inj hf (show execGetxd n s = .next t from h)
      exact .read _ hf
    | fixnan v =>
      obtain rfl := complete_inj hf (show execFixnan v s = .next t from h)
      exact .read _ hf
    | fixnan64 v =>
      obtain rfl := complete_inj hf (show execFixnan64 v s = .next t from h)
      exact .read _ hf
    | adjslot epc evt vec =>
      obtain rfl := complete_inj hf (show execAdjslot epc evt vec s = .next t from h)
      exact .read _ hf

/-! ## What a step can do -/

theorem illegalCommand_running {s : State} (h : s.fatal = false) : illegalCommand s = .next (s.stop .illegalCmd) :=
  complete_running h _

theorem illegalCommand_stopped {s : State} (h : s.fatal = true) : illegalCommand s = .next (s.answer .stopped) :=
  complete_stopped h _

/-- The inversion of `step`: nothing requested, an operation, a reserved word, or a reset. -/
theorem step_cases {s t : State} (h : step s = .next t) :
    (s.inputs = [] ∧ t = s) ∨
    (∃ r rest i, s.inputs = .request r :: rest ∧ decode r = some i ∧ Effect i (s.dropInput rest) t) ∨
    (∃ r rest, s.inputs = .request r :: rest ∧ decode r = none ∧
      ((s.fatal = true ∧ t = (s.dropInput rest).answer .stopped) ∨
        (s.fatal = false ∧ t = (s.dropInput rest).stop .illegalCmd))) ∨
    (∃ m rest, s.inputs = .reset m :: rest ∧ t = (s.dropInput rest).applyReset m) := by
  unfold step at h
  split at h
  · rename_i he
    exact .inl ⟨he, (Host.Outcome.next.inj h).symm⟩
  · rename_i x rest he
    right
    cases x with
    | reset m => exact .inr (.inr ⟨m, rest, he, (Host.Outcome.next.inj h).symm⟩)
    | request r =>
      simp only [takeInput, serve] at h
      split at h
      · rename_i i hd
        exact .inl ⟨r, rest, i, he, hd, exec_cases h⟩
      · rename_i hd
        exact .inr (.inl ⟨r, rest, he, hd, complete_eq_next h⟩)

end Sys2Proof.Machine
end

