-- ==== Sys2Proof/Tests/Slice0.lean ====
section
/-! SUPPORT. Tests and witnesses. Every word is written out from the encodings of R101, every expected value comes from
spec/95_test_vectors.md (its number is named) or from the rule named; a witness shows a state and operands that meet
all the hypotheses of one statement. -/

namespace Sys2Proof.Tests

open Sys2Proof.Machine Sys2Proof.Safety

/-! ## Decoding -/

/-- The words of GETR, SETR, GETRB, SETRB (R121 to R124). -/
theorem test_words_general :
    decodeTableWord 16 0b0001000000001011 = some (.getr 11) ∧
    decodeTableWord 16 0b0001000100001011 = some (.setr 11 0) ∧
    decodeTableWord 16 0b0001001000000110 = some (.getrb 6) ∧
    decodeTableWord 16 0b0001001100000110 = some (.setrb 6 0) := by decide

/-- The words of GET.x (R96, reading). -/
theorem test_words_get :
    decodeTableWord 16 0b0001010000000000 = some .getSr ∧
    decodeTableWord 16 0b0001010000000001 = some .getSsr ∧
    decodeTableWord 16 0b0001010000000010 = some .getSpc ∧
    decodeTableWord 16 0b0001010000000011 = some .getSgr ∧
    decodeTableWord 16 0b0001010000000100 = some .getDbr ∧
    decodeTableWord 16 0b0001010000000101 = some .getVbr ∧
    decodeTableWord 16 0b0001010000000110 = some .getPr ∧
    decodeTableWord 16 0b0001010000000111 = some .getFpul ∧
    decodeTableWord 16 0b0001010000001000 = some .getPc ∧
    decodeTableWord 16 0b0001010000001001 = some .getFpscr ∧
    decodeTableWord 16 0b0001010000001010 = some .getMach ∧
    decodeTableWord 16 0b0001010000001011 = some .getMacl ∧
    decodeTableWord 16 0b0001010000001110 = some .getExpevt := by decide

/-- The words of SET.x (R96, writing). -/
theorem test_words_set :
    decodeTableWord 16 0b0001010100000000 = some (.setSr 0) ∧
    decodeTableWord 16 0b0001010100000001 = some (.setSsr 0) ∧
    decodeTableWord 16 0b0001010100000010 = some (.setSpc 0) ∧
    decodeTableWord 16 0b0001010100000011 = some (.setSgr 0) ∧
    decodeTableWord 16 0b0001010100000100 = some (.setDbr 0) ∧
    decodeTableWord 16 0b0001010100000101 = some (.setVbr 0) ∧
    decodeTableWord 16 0b0001010100000110 = some (.setPr 0) ∧
    decodeTableWord 16 0b0001010100000111 = some (.setFpul 0) ∧
    decodeTableWord 16 0b0001010100001000 = some (.setPc 0) ∧
    decodeTableWord 16 0b0001010100001001 = some (.setFpscr 0) ∧
    decodeTableWord 16 0b0001010100001010 = some (.setMach 0) ∧
    decodeTableWord 16 0b0001010100001011 = some (.setMacl 0) := by decide

/-- The words of GETMAC, SETMAC (R150, R151). -/
theorem test_words_mac :
    decodeTableWord 16 0b0001011000000000 = some .getmac ∧
    decodeTableWord 16 0b0001011100000000 = some (.setmac 0) := by decide

/-- The words of DBG.PEEK (R97). -/
theorem test_words_peek :
    decodeTableWord 16 0b0001100000001011 = some (.dbgPeekR 11) ∧
    decodeTableWord 16 0b0001100000010110 = some (.dbgPeekRBank 6) ∧
    decodeTableWord 16 0b0001100000100110 = some (.dbgPeekScalarLo 6) ∧
    decodeTableWord 16 0b0001100000101010 = some (.dbgPeekScalarHi 2) ∧
    decodeTableWord 16 0b0001100000101101 = some (.dbgPeekShadow 1) ∧
    decodeTableWord 16 0b0001100000101110 = some .dbgPeekExpevt ∧
    decodeTableWord 16 0b0001100001001011 = some (.dbgPeekFr 11) ∧
    decodeTableWord 16 0b0001100001011011 = some (.dbgPeekXf 11) := by decide

/-- The words of DBG.POKE (R97). -/
theorem test_words_poke :
    decodeTableWord 16 0b0001100100001011 = some (.dbgPokeR 11 0) ∧
    decodeTableWord 16 0b0001100100010110 = some (.dbgPokeRBank 6 0) ∧
    decodeTableWord 16 0b0001100100100110 = some (.dbgPokeScalarLo 6 0) ∧
    decodeTableWord 16 0b0001100100101010 = some (.dbgPokeScalarHi 2 0) ∧
    decodeTableWord 16 0b0001100101001011 = some (.dbgPokeFr 11 0) ∧
    decodeTableWord 16 0b0001100101011011 = some (.dbgPokeXf 11 0) := by decide

/-- The words of the Floating-Point View Model (R161 to R170). -/
theorem test_words_fp :
    decodeTableWord 16 0b0010000000001011 = some (.getfr 11) ∧
    decodeTableWord 16 0b0010000100001011 = some (.setfr 11 0) ∧
    decodeTableWord 16 0b0010001000001011 = some (.getxf 11) ∧
    decodeTableWord 16 0b0010001100001011 = some (.setxf 11 0) ∧
    decodeTableWord 16 0b0010010000000110 = some (.getdr 6) ∧
    decodeTableWord 16 0b0010010100000110 = some (.setdr 6 0) ∧
    decodeTableWord 16 0b0010011000000110 = some (.getxd 6) ∧
    decodeTableWord 16 0b0010011100000110 = some (.setxd 6 0) ∧
    decodeTableWord 16 0b0010100000000000 = some (.fixnan 0) ∧
    decodeTableWord 16 0b0010100100000000 = some (.fixnan64 0) := by decide

/-- The words of UPDSR, UPDFPSCR, SETFSR (R181, R183, R185). -/
theorem test_words_status_control :
    decodeTableWord 16 0b0011000000000000 = some .updsr ∧
    decodeTableWord 16 0b0011000100000000 = some .updfpscr ∧
    decodeTableWord 16 0b0011001000000000 = some .setfsr := by decide

/-- The words of DOEXC, RAISEFPUDIS, ADJSLOT (R196, R199, R201). -/
theorem test_words_exception :
    decodeTableWord 16 0b0100000000000000 = some (.doexc 0 0 0) ∧
    decodeTableWord 16 0b0100000100000000 = some .raisefpudis ∧
    decodeTableWord 16 0b0100001000000000 = some (.adjslot 0 0 0) := by decide

/-- A 32-bit operand is A[31:0] (V6, V87), a 64-bit one all of A (V15), a triple is A[31:0], B, C (V91). -/
theorem test_operand_buses :
    decode ⟨0x1103, 0xFFFFFFFF00000001, 7, 9⟩ = some (.setr 3 1) ∧
    decode ⟨0x1700, 0x0123456789ABCDEF, 0, 0⟩ = some (.setmac 0x0123456789ABCDEF) ∧
    decode ⟨0x4000, 0xFFFFFFFF8C001002, 0x820, 0x100⟩ = some (.doexc 0x8C001002 0x820 0x100) ∧
    decode ⟨0x4200, 0x000000008C001004, 0x180, 0x400⟩ = some (.adjslot 0x8C001004 0x180 0x400) := by decide

/-- The encoder drives the buses of R94 and R98 and no other. -/
theorem test_encode :
    encode (.setrb 3 5) = ⟨0x1303, 5, 0, 0⟩ ∧
    encode (.dbgPokeXf 5 0x77) = ⟨0x1955, 0x77, 0, 0⟩ ∧
    encode (.setxd 2 0x0123456789ABCDEF) = ⟨0x2702, 0x0123456789ABCDEF, 0, 0⟩ ∧
    encode (.doexc 0x8C001002 0x820 0x100) = ⟨0x4000, 0x8C001002, 0x820, 0x100⟩ := by decide

/-! ## Ill-formed requests, one for each check of WellFormed (V110 to V119) -/

/-- The word is refused by the check and by the decoder. -/
def Refused (cmd : CmdWord) : Prop := Request.wf ⟨cmd, 0, 0, 0⟩ = false ∧ decode ⟨cmd, 0, 0, 0⟩ = none

theorem test_refuses_unassigned_operations :
    Refused 0x0000 ∧ Refused 0x3300 ∧ Refused 0x4300 ∧ Refused 0x1A00 ∧ Refused 0x2A00 ∧ Refused 0x5000 ∧
    Refused 0xFFFF := by unfold Refused; decide

theorem test_refuses_index_outside_n4 : Refused 0x1010 := by unfold Refused; decide

theorem test_refuses_index_outside_n3 : Refused 0x1208 ∧ Refused 0x2408 := by unfold Refused; decide

theorem test_refuses_reserved_scalar_to_read : Refused 0x140C ∧ Refused 0x140F := by unfold Refused; decide

theorem test_refuses_reserved_scalar_to_write : Refused 0x150E ∧ Refused 0x150C := by unfold Refused; decide

theorem test_refuses_reserved_peek : Refused 0x1818 ∧ Refused 0x182F ∧ Refused 0x1860 := by unfold Refused; decide

theorem test_refuses_reserved_poke : Refused 0x192C ∧ Refused 0x192E ∧ Refused 0x1918 := by unfold Refused; decide

theorem test_refuses_selector_in_format_z : Refused 0x3001 := by unfold Refused; decide

/-- The legal words beside them are accepted. -/
theorem test_accepts_the_last_of_each_format :
    Request.wf ⟨0x100F, 0, 0, 0⟩ = true ∧ Request.wf ⟨0x1207, 0, 0, 0⟩ = true ∧ Request.wf ⟨0x140E, 0, 0, 0⟩ = true ∧
    Request.wf ⟨0x150B, 0, 0, 0⟩ = true ∧ Request.wf ⟨0x185F, 0, 0, 0⟩ = true ∧ Request.wf ⟨0x195F, 0, 0, 0⟩ = true ∧
    Request.wf ⟨0x4200, 0, 0, 0⟩ = true := by decide

/-! ## States of the tests -/

/-- After reset, with the start values of V1 to V8 in the unspecified words. -/
def start : State :=
  { State.afterReset Params.default true 0 with
    gb0 := Vector.replicate 8 0x11111111
    gb1 := Vector.replicate 8 0x22222222
    rh := Vector.replicate 8 0x99999999
    fb0 := Vector.replicate 16 0xAAAAAAAA
    fb1 := Vector.replicate 16 0xBBBBBBBB
    ssr := 0x12345678
    spc := 0x9ABCDEF0
    sgr := 0x0BADF00D
    dbr := 0xDEADBEEF
    pr := 2
    fpul := 3
    mac := 0x0123456789ABCDEF }

/-- The start of V91: bank 0, exceptions not blocked, PC past the slot instruction. -/
def open0 : State :=
  { start with
    sr := 0x40000001
    oldSr := 0x40000001
    gprBank := false
    srMode := srDecode Params.default 0x40000001
    vbr := 0x8C000000
    rh := Vector.replicate 8 0x8C00F000
    pc := 0x8C001006 }

/-- As `open0`, without MMU support. -/
def noMmu : State := { open0 with fullMMU := false }

/-- As `open0`, with exceptions blocked (V97). -/
def blocked : State := { open0 with sr := 0x50000001, oldSr := 0x50000001, srMode := srDecode Params.default 0x50000001 }

/-- A stopped block. -/
def stopped : State := start.stop .nested

/-- A raw write of SR has not reached the derived state (V61). -/
def owesSr : State := { start with sr := 0x500000F0 }

/-- A raw write of FPSCR has not reached the derived state (V52). -/
def owesFpscr : State := { start with fpscr := 0x00240001 }

/-- `s` with one input to take. -/
def queued (s : State) (x : Input) : State := { s with inputs := [x] }

/-- A request with a word and nothing on the buses. -/
def ask (cmd : CmdWord) : Input := .request ⟨cmd, 0, 0, 0⟩

/-- The state an answer leaves. -/
def left : Result → State
  | .next s => s
  | _ => start

/-- The last answer as numbers: status, Q, QB, QC. -/
def said (r : Result) : Option (Status × Nat × Nat × Nat) :=
  (left r).response.map fun a => (a.status, a.q.toNat, a.qb.toNat, a.qc.toNat)

/-! ## Register File and debug port -/

/-- V1, V3. -/
theorem test_getr : said (exec (.getr 3) start) = some (.ok, 0x22222222, 0, 0) ∧
    said (exec (.getr 9) start) = some (.ok, 0x99999999, 0, 0) := by decide

/-- V2. -/
theorem test_getrb : said (exec (.getrb 3) start) = some (.ok, 0x11111111, 0, 0) := by decide

/-- V4, and its frame in the other bank. -/
theorem test_setr : (left (exec (.setr 3 0xCAFEBABE) start)).gb1[3] = 0xCAFEBABE ∧
    (left (exec (.setr 3 0xCAFEBABE) start)).gb0[3] = 0x11111111 := by decide

/-- V8: r15 is the last word of RH. -/
theorem test_setr_unbanked : (left (exec (.setr 15 0x8C00F000) start)).rh[7] = 0x8C00F000 := by decide

/-- V5. -/
theorem test_setrb : (left (exec (.setrb 3 5) start)).gb0[3] = 5 ∧
    (left (exec (.setrb 3 5) start)).gb1[3] = 0x22222222 := by decide

/-- V9, V20, R251, and the start values: each GET reads its own register. -/
theorem test_get_scalars :
    said (exec .getSr start) = some (.ok, 0x700000F0, 0, 0) ∧
    said (exec .getSsr start) = some (.ok, 0x12345678, 0, 0) ∧
    said (exec .getSpc start) = some (.ok, 0x9ABCDEF0, 0, 0) ∧
    said (exec .getSgr start) = some (.ok, 0x0BADF00D, 0, 0) ∧
    said (exec .getDbr start) = some (.ok, 0xDEADBEEF, 0, 0) := by decide

theorem test_get_scalars_next :
    said (exec .getVbr open0) = some (.ok, 0x8C000000, 0, 0) ∧
    said (exec .getPr start) = some (.ok, 2, 0, 0) ∧
    said (exec .getFpul start) = some (.ok, 3, 0, 0) := by decide

theorem test_get_scalars_last :
    said (exec .getPc start) = some (.ok, 0xA0000000, 0, 0) ∧
    said (exec .getFpscr start) = some (.ok, 0x00040001, 0, 0) ∧
    said (exec .getExpevt start) = some (.ok, 0, 0, 0) := by decide

/-- V10, V11: the write mask of SR, and no derived state follows. -/
theorem test_set_sr : (left (exec (.setSr 0xFFFFFFFF) start)).sr = 0x700083F3 ∧
    (left (exec (.setSr 0x8FFF7C0C) start)).sr = 0 ∧ (left (exec (.setSr 0x8FFF7C0C) start)).gprBank = true := by decide

/-- V12. -/
theorem test_set_fpscr : (left (exec (.setFpscr 0xFFFFFFFF) start)).fpscr = 0x003FFFFF ∧
    (left (exec (.setFpscr 0xFFFFFFFF) start)).fpBank = false := by decide

/-- V13, V14, V18, V19: no mask, no alignment. -/
theorem test_set_scalars :
    (left (exec (.setSsr 0xFFFFFFFF) start)).ssr = 0xFFFFFFFF ∧ (left (exec (.setSpc 4) start)).spc = 4 ∧
    (left (exec (.setSgr 1) start)).sgr = 1 ∧ (left (exec (.setDbr 5) start)).dbr = 5 ∧
    (left (exec (.setVbr 0x8C000000) start)).vbr = 0x8C000000 ∧ (left (exec (.setPr 9) start)).pr = 9 ∧
    (left (exec (.setFpul 8) start)).fpul = 8 ∧ (left (exec (.setPc 0x8C001001) start)).pc = 0x8C001001 := by decide

/-- V15, V16, V17. -/
theorem test_mac :
    said (exec .getMach start) = some (.ok, 0x01234567, 0, 0) ∧
    said (exec .getMacl start) = some (.ok, 0x89ABCDEF, 0, 0) ∧
    said (exec .getmac start) = some (.ok, 0x0123456789ABCDEF, 0, 0) ∧
    (left (exec (.setMacl 0xFFFFFFFF) start)).mac = 0x01234567FFFFFFFF ∧
    (left (exec (.setMach 0) start)).mac = 0x0000000089ABCDEF ∧ (left (exec (.setmac 1) start)).mac = 1 := by decide

/-- V22 to V28: each identifier names its word. -/
theorem test_peek :
    said (exec (.dbgPeekR 2) start) = some (.ok, 0x22222222, 0, 0) ∧
    said (exec (.dbgPeekRBank 2) start) = some (.ok, 0x11111111, 0, 0) ∧
    said (exec (.dbgPeekScalarLo 4) start) = some (.ok, 0xDEADBEEF, 0, 0) ∧
    said (exec (.dbgPeekScalarHi 3) start) = some (.ok, 0x89ABCDEF, 0, 0) := by decide

theorem test_peek_more :
    said (exec (.dbgPeekShadow 0) owesSr) = some (.ok, 0x700000F0, 0, 0) ∧
    said (exec (.dbgPeekShadow 1) owesFpscr) = some (.ok, 0x00040001, 0, 0) ∧
    said (exec .dbgPeekExpevt start) = some (.ok, 0, 0, 0) ∧
    said (exec (.dbgPeekFr 5) start) = some (.ok, 0xAAAAAAAA, 0, 0) ∧
    said (exec (.dbgPeekXf 5) start) = some (.ok, 0xBBBBBBBB, 0, 0) := by decide

/-- V29, V31, P5: raw writes of the named word, SR through its mask. -/
theorem test_poke :
    (left (exec (.dbgPokeR 1 7) start)).gb1[1] = 7 ∧ (left (exec (.dbgPokeRBank 1 7) start)).gb0[1] = 7 ∧
    (left (exec (.dbgPokeScalarLo 0 0xFFFFFFFF) start)).sr = 0x700083F3 ∧
    (left (exec (.dbgPokeScalarLo 7 6) start)).fpul = 6 ∧ (left (exec (.dbgPokeScalarHi 0 4) start)).pc = 4 ∧
    (left (exec (.dbgPokeScalarHi 2 0) start)).mac = 0x89ABCDEF ∧
    (left (exec (.dbgPokeFr 5 7) start)).fb0[5] = 7 ∧ (left (exec (.dbgPokeXf 5 0x77) start)).fb1[5] = 0x77 := by decide

/-! ## Floating-Point View Model -/

/-- V40, V52: the primary set and the extended one. -/
theorem test_getfr_getxf : said (exec (.getfr 0) start) = some (.ok, 0xAAAAAAAA, 0, 0) ∧
    said (exec (.getxf 0) start) = some (.ok, 0xBBBBBBBB, 0, 0) := by decide

/-- V46 and P2 step 4. -/
theorem test_setfr_setxf : (left (exec (.setfr 15 0x7FBFFFFF) start)).fb0[15] = 0x7FBFFFFF ∧
    (left (exec (.setxf 2 0xC0000000) start)).fb1[2] = 0xC0000000 := by decide

/-- T2 and V42: the even slot is the high half. -/
theorem test_getdr_getxd :
    said (exec (.getdr 1) (left (exec (.setfr 3 0) start))) = some (.ok, 0xAAAAAAAA00000000, 0, 0) ∧
    said (exec (.getxd 3) (left (exec (.setxf 6 0x11111111) start))) = some (.ok, 0x11111111BBBBBBBB, 0, 0) := by decide

/-- V41, V44. -/
theorem test_setdr : (left (exec (.setdr 1 0x400921FB54442D18) start)).fb0[2] = 0x400921FB ∧
    (left (exec (.setdr 1 0x400921FB54442D18) start)).fb0[3] = 0x54442D18 ∧
    (left (exec (.setdr 1 0x400921FB54442D18) start)).fb0[1] = 0xAAAAAAAA := by decide

/-- V45: the extended set alone. -/
theorem test_setxd : (left (exec (.setxd 7 0x1111111122222222) start)).fb1[15] = 0x22222222 ∧
    (left (exec (.setxd 7 0x1111111122222222) start)).fb0[15] = 0xAAAAAAAA := by decide

/-- V48, V50: the default hook is the identity. -/
theorem test_fixnan : said (exec (.fixnan 0x7FC00000) start) = some (.ok, 0x7FC00000, 0, 0) ∧
    said (exec (.fixnan64 0x7FF8000000000000) start) = some (.ok, 0x7FF8000000000000, 0, 0) := by decide

/-- R5: a NaN function that is not the identity, on a pattern it lists and on one it does not. -/
theorem test_fixnan_table :
    fixNan32 (.table [(0x7FC00000, 0x7FBFFFFF)]) 0x7FC00000 = 0x7FBFFFFF ∧
    fixNan32 (.table [(0x7FC00000, 0x7FBFFFFF)]) 0x3F800000 = 0x3F800000 ∧
    fixNan64 (.table [(0x7FF8000000000000, 0x7FF7FFFFFFFFFFFF)]) 0x7FF8000000000000 = 0x7FF7FFFFFFFFFFFF := by decide

/-! ## Status/Control Flags -/

/-- V60, V61. -/
theorem test_updsr : said (exec .updsr start) = some (.ok, 0, 0, 0) ∧ said (exec .updsr owesSr) = some (.ok, 1, 0, 0) ∧
    (left (exec .updsr owesSr)).gprBank = false ∧
    (left (exec .updsr owesSr)).srMode = ⟨false, true, true, 0xF, false⟩ := by decide

/-- V63: the mask and FD fields. -/
theorem test_updsr_fields : (left (exec .updsr { start with sr := 0x70008031 })).srMode = ⟨true, true, true, 3, true⟩ := by
  decide

/-- V67: UPDFPSCR drives the mode and not the host latch. -/
theorem test_updfpscr : (left (exec .updfpscr { start with fpscr := 0x00180002 })).fpMode = ⟨false, 2, false, true, true⟩ ∧
    (left (exec .updfpscr { start with fpscr := 0x00180002 })).hostFpctl = some ⟨1, true⟩ := by decide

/-- V68, V69. -/
theorem test_setfsr : (left (exec .setfsr { start with fpscr := 0x00180002 })).hostFpctl = some ⟨2, false⟩ ∧
    (left (exec .setfsr { start with fpscr := 0 })).hostFpctl = some ⟨0, false⟩ := by decide

/-! ## Exception Controller -/

/-- V91. -/
theorem test_doexc : (left (exec (.doexc 0x8C001002 0x820 0x100) open0)).ssr = 0x40000001 ∧
    (left (exec (.doexc 0x8C001002 0x820 0x100) open0)).sgr = 0x8C00F000 ∧
    (left (exec (.doexc 0x8C001002 0x820 0x100) open0)).sr = 0x70000001 ∧
    (left (exec (.doexc 0x8C001002 0x820 0x100) open0)).pc = 0x8C000100 := by decide

/-- V96, V97, V98, V99. -/
theorem test_doexc_checks :
    said (exec (.doexc 0x8C001002 0x140 0) noMmu) = some (.fail, 0, 0, 0) ∧
    (left (exec (.doexc 0 0x180 0x100) blocked)).fatalReason = .nested ∧
    (left (exec (.doexc 0 0x020 0) blocked)).pc = 0xA0000000 ∧
    said (exec (.doexc 0 0x800 0x100) { blocked with fullMMU := false }) = some (.fail, 0, 0, 0) := by decide

/-- T7, and step 14 of P4. -/
theorem test_raisefpudis : said (exec .raisefpudis open0) = some (.thrown, 0x8C001004, 0x800, 0x100) ∧
    (left (exec .raisefpudis noMmu)).fatalReason = .mmuConfig := by decide

/-- T3, V80, V82, V85. -/
theorem test_adjslot :
    said (exec (.adjslot 0 0x800 0x100) start) = some (.ok, 0xFFFFFFFE, 0x820, 0x100) ∧
    said (exec (.adjslot 0x8C001004 0x180 0x100) start) = some (.ok, 0x8C001002, 0x1A0, 0x100) ∧
    said (exec (.adjslot 0x8C001002 0x820 0x100) start) = some (.ok, 0x8C001000, 0x820, 0x100) ∧
    said (exec (.adjslot 0x8C001004 0x00010800 0x100) start) = some (.ok, 0x8C001002, 0x00010800, 0x100) := by decide

/-! ## The step -/

/-- V110, V120: a reserved word stops the block, and a stopped block answers FATAL. -/
theorem test_step_reserved : (left (step (queued start (ask 0x0000)))).fatalReason = .illegalCmd ∧
    said (step (queued stopped (ask 0x1400))) = some (.fatal, 0, 0, 0) := by decide

/-- V121: reset clears the stop. -/
theorem test_step_reset : (left (step (queued stopped (.reset true)))).fatal = false ∧
    (left (step (queued stopped (.reset true)))).sr = 0x700000F0 := by decide

/-- The first request after reset is served (V9), and with nothing requested nothing changes (R234). -/
theorem test_step_from_reset : said (step (State.reset.withFetchWord 16 0x1400)) = some (.ok, 0x700000F0, 0, 0) ∧
    (left (step State.reset)).inputs = [] := by decide

/-! ## Witnesses: a state and operands that meet all the hypotheses of a statement -/

theorem witness_DecodingFollowsTheOpcodeTable :
    decode ⟨0x1207, 0, 0, 0⟩ = some (.getrb 7) ∧ (⟨"GETRB", 0x1200, 0xFFF8⟩ : Row) ∈ opcodeTable ∧
    Row.hits ⟨"GETRB", 0x1200, 0xFFF8⟩ 0x1207 = true := by decide

theorem witness_EncodeOfDecodeKeepsTheRequest :
    decode ⟨0x4000, 0xFFFFFFFF8C001002, 0x820, 0x100⟩ = some (.doexc 0x8C001002 0x820 0x100) := by decide

theorem witness_StepRunsTheDecodedOperation :
    ((queued start (ask 0x100F)).inputs = .request ⟨0x100F, 0, 0, 0⟩ :: [] ∧
      decode ⟨0x100F, 0, 0, 0⟩ = some (.getr 15)) ∧
    decodeTableWord 16 0x3000 = some .updsr ∧ start.inputs = [] := by decide

theorem witness_StoppedBlockAnswersFatal : (queued stopped (ask 0x0000)).fatal = true ∧
    (queued stopped (ask 0x0000)).inputs = .request ⟨0x0000, 0, 0, 0⟩ :: [] := by decide

theorem witness_ReservedWordStopsTheBlock : (queued start (ask 0x1010)).inputs = .request ⟨0x1010, 0, 0, 0⟩ :: [] ∧
    (queued start (ask 0x1010)).fatal = false ∧ Request.wf ⟨0x1010, 0, 0, 0⟩ = false := by decide

/-- Both cases: the block stops, and it does not. -/
theorem witness_HostErrorIsDrivenOncePerStop :
    ((queued start (ask 0x1010)).inputs = .request ⟨0x1010, 0, 0, 0⟩ :: [] ∧
      step (queued start (ask 0x1010)) = .next (left (step (queued start (ask 0x1010))))) ∧
    (left (step (queued start (ask 0x1010)))).fatal = true ∧
    step (queued start (ask 0x1000)) = .next (left (step (queued start (ask 0x1000)))) ∧
    (left (step (queued start (ask 0x1000)))).fatal = false := ⟨⟨rfl, rfl⟩, rfl, rfl, rfl⟩

/-- A running block, in either bank: the only hypothesis of GetrReadsTheActiveViewAndGetrbTheOther,
SetrWritesOneWordOfTheActiveView, SetrbWritesOneWordOfTheInactiveBank, GetScalarReturnsTheRegister,
SetScalarStoresTheOperand, SetStatusIsARawMaskedWrite, MacReadsItsHalves, MacWritesItsHalves, PeekReadsTheNamedWord,
PokeWritesTheNamedWord, GetfrReadsItsBankAndGetxfTheOther, GetdrJoinsTheEvenAndTheOddSlot,
SetdrSplitsIntoTheEvenAndTheOddSlot, UpdsrRecomputesTheDerivedState, UpdfpscrRecomputesTheDerivedState,
UpdatersAreIdempotent, RawWritesLeaveTheViewsStale, AdjslotAnswersTheAdjustedTriple, RteReturnsFromTheHandler and
LoadAndTogglePseudoOperations. -/
theorem witness_running : start.fatal = false ∧ start.gprBank = true ∧ open0.fatal = false ∧ open0.gprBank = false := by
  decide

/-- The ends of the range of indices that GETRB, GETDR and GETXD do not have, in
GetrReadsTheActiveViewAndGetrbTheOther and GetdrJoinsTheEvenAndTheOddSlot. -/
theorem witness_indices_outside_n3 : (8 ≤ 8 ∧ 8 < 0x100) ∧ (8 ≤ 0xFF ∧ 0xFF < 0x100) ∧
    decode ⟨0x12FF, 0, 0, 0⟩ = none ∧ decode ⟨0x2408, 0, 0, 0⟩ = none ∧ decode ⟨0x26FF, 0, 0, 0⟩ = none := by decide

theorem witness_GeneralRegisterReadsTheLastWrite : start.fatal = false ∧
    exec (.setr 7 5) start = .next (left (exec (.setr 7 5) start)) ∧
    exec (.setrb 7 5) start = .next (left (exec (.setrb 7 5) start)) := ⟨rfl, rfl, rfl⟩

theorem witness_GetStatusReturnsTheRawRegister : start.fatal = false ∧ ReservedClear start :=
  ⟨rfl, rfl, rfl, rfl, rfl⟩

theorem witness_SetfrWritesOneSlotOfItsBank : start.fatal = false ∧
    resultOf (exec (.getdr 7) start) = some 0xAAAAAAAAAAAAAAAA ∧
    resultOf (exec (.getxd 7) start) = some 0xBBBBBBBBBBBBBBBB := by decide

theorem witness_DoubleViewLaws : start.fatal = false ∧ (15 : Fin 16) ≠ evenSlot 0 ∧ (15 : Fin 16) ≠ oddSlot 0 := by
  decide

/-- Two states that differ in FPSCR, SR and the modes. -/
theorem witness_FpViewsDependOnTheirStorageAlone :
    start.fatal = false ∧ open0.fatal = false ∧ start.fb0 = open0.fb0 ∧ start.fb1 = open0.fb1 ∧
    start.fpBank = open0.fpBank ∧ start.params.fixNan32 = open0.params.fixNan32 ∧
    start.params.fixNan64 = open0.params.fixNan64 ∧ start.sr ≠ open0.sr ∧
    (Instr.fixnan64 1) ∈ ([.getfr 0, .setfr 0 0, .getxf 0, .setxf 0 0, .getdr 0, .setdr 0 1, .getxd 0, .setxd 0 1,
      .fixnan 0, .fixnan64 1] : List Instr) :=
  ⟨rfl, rfl, rfl, rfl, rfl, rfl, rfl, by decide, by decide⟩

theorem witness_FixnanIsTheConfiguredFunction : start.fatal = false ∧ start.params.fixNan32 = .passThrough ∧
    start.params.fixNan64 = .passThrough := by decide

/-- Both results of UPDSR. -/
theorem witness_UpdsrSwapsTheBanksWithoutDataLoss :
    (owesSr.fatal = false ∧ Derived owesSr ∧ exec .updsr owesSr = .next (left (exec .updsr owesSr)) ∧
      resultOf (exec .updsr owesSr) = some 1) ∧
    (start.fatal = false ∧ Derived start ∧ exec .updsr start = .next (left (exec .updsr start)) ∧
      resultOf (exec .updsr start) = some 0) :=
  ⟨⟨rfl, ⟨rfl, rfl, rfl, rfl, rfl⟩, rfl, rfl⟩, rfl, ⟨rfl, rfl, rfl, rfl, rfl⟩, rfl, rfl⟩

/-- Both cases of the FR bit. -/
theorem witness_UpdfpscrExchangesTheViews :
    (owesFpscr.fatal = false ∧ exec .updfpscr owesFpscr = .next (left (exec .updfpscr owesFpscr)) ∧
      fpbankOf owesFpscr.params owesFpscr.fpscr ≠ owesFpscr.fpBank) ∧
    (start.fatal = false ∧ exec .updfpscr start = .next (left (exec .updfpscr start)) ∧
      fpbankOf start.params start.fpscr = start.fpBank) :=
  ⟨⟨rfl, rfl, by decide⟩, rfl, rfl, rfl⟩

/-- Both forms of the parameter. -/
theorem witness_SetfsrDrivesTheHostControl : start.fatal = false ∧ start.params.hostFpuCtl = true ∧
    State.fatal { start with params := { Params.default with hostFpuCtl := false }, hostFpctl := none } = false :=
  ⟨rfl, rfl, rfl⟩

theorem witness_DoexcWithoutMmuFailsAtomically :
    noMmu.fatal = false ∧ (0x800 : Word) ∈ noMmu.params.mmuRequired ∧ noMmu.fullMMU = false := by decide

/-- Each alternative: support or an event that needs none, a pending delivery or blocked exceptions. -/
theorem witness_DoexcNestedIsFatal :
    (blocked.fatal = false ∧ (0x180 : Word) ∉ blocked.params.mmuRequired ∧ blocked.params.nestedCheckBl = true ∧
      blocked.sr.getLsbD blocked.params.srBl.val = true ∧ (0x180 : Word) ∉ blocked.params.resetEvents) ∧
    (State.excState { open0 with excState := .exceptionPending } = .exceptionPending ∧ open0.fatal = false ∧
      open0.fullMMU = true) := by decide

/-- Each alternative: blocking off, exceptions open, a reset-class event. -/
theorem witness_DoexcDelivers :
    (open0.fatal = false ∧ open0.fullMMU = true ∧ open0.excState = .normal ∧
      open0.sr.getLsbD open0.params.srBl.val = false) ∧
    (noMmu.fatal = false ∧ (0x180 : Word) ∉ noMmu.params.mmuRequired ∧ noMmu.excState = .normal ∧
      noMmu.sr.getLsbD noMmu.params.srBl.val = false) ∧
    (blocked.fatal = false ∧ blocked.fullMMU = true ∧ blocked.excState = .normal ∧
      (0x020 : Word) ∈ blocked.params.resetEvents) := by decide

theorem witness_EntrySwitchesToTheHandlersBank :
    open0.params = Params.default ∧ ReservedClear open0 ∧ open0.fatal = false ∧
    exec (.doexc 0x8C001002 0x820 0x100) open0 = .next (left (exec (.doexc 0x8C001002 0x820 0x100) open0)) ∧
    (left (exec (.doexc 0x8C001002 0x820 0x100) open0)).response = some ⟨.ok, 0, 0, 0⟩ ∧ open0.gprBank = false :=
  ⟨rfl, ⟨rfl, rfl, rfl, rfl⟩, rfl, rfl, rfl, rfl⟩

/-- With and without MMU support. -/
theorem witness_RaisefpudisThrowsTheTriple : open0.fatal = false ∧ open0.fullMMU = true ∧ open0.params.ilen = 2 ∧
    noMmu.fatal = false ∧ noMmu.fullMMU = false := by decide

/-- Each row of the table. -/
theorem witness_SlotRemapIsTheFixedTable : start.fatal = false ∧
    (∀ evt : Word, exec (.adjslot 8 evt 0) start = .next (left (exec (.adjslot 8 evt 0) start)) ∧
      (left (exec (.adjslot 8 evt 0) start)).response = some ⟨.ok, 6, slotRemap evt, 0⟩) ∧
    (0x820 : Word) ≠ 0x800 ∧ (0x820 : Word) ≠ 0x180 :=
  ⟨rfl, fun _ => ⟨rfl, rfl⟩, by decide, by decide⟩

theorem witness_FpuDisableProtocol : open0.params = Params.default ∧ open0.fatal = false ∧ open0.fullMMU = true ∧
    open0.excState = .normal ∧ open0.sr.getLsbD 28 = false ∧ open0.pc = 0x8C001004 + 2 := by decide

theorem witness_ReturnUndoesDelivery :
    Derived open0 ∧ ReservedClear open0 ∧ open0.oldSr = open0.sr ∧ open0.fatal = false ∧
    exec (.doexc 0x8C001004 0x800 0x100) open0 = .next (left (exec (.doexc 0x8C001004 0x800 0x100) open0)) ∧
    (left (exec (.doexc 0x8C001004 0x800 0x100) open0)).response = some ⟨.ok, 0, 0, 0⟩ :=
  ⟨⟨rfl, rfl, rfl, rfl, rfl⟩, ⟨rfl, rfl, rfl, rfl⟩, rfl, rfl, rfl, rfl⟩

/-- Each status but OK. -/
theorem witness_StatusesBelongToTheirOperations : open0.fatal = false ∧ noMmu.fatal = false ∧
    statusOf (exec .raisefpudis open0) = some .thrown ∧ statusOf (exec (.doexc 0 0x800 0x100) noMmu) = some .fail ∧
    statusOf (exec .raisefpudis noMmu) = some .fatal := by decide

/-- A step that switches the bank, and a reset that does. -/
theorem witness_OnlyUpdsrDoexcAndResetSwitchTheBank :
    (step (queued owesSr (ask 0x3000)) = .next (left (step (queued owesSr (ask 0x3000)))) ∧
      (left (step (queued owesSr (ask 0x3000)))).gprBank ≠ (queued owesSr (ask 0x3000)).gprBank) ∧
    (step (queued open0 (.reset true)) = .next (left (step (queued open0 (.reset true)))) ∧
      (left (step (queued open0 (.reset true)))).gprBank ≠ (queued open0 (.reset true)).gprBank) :=
  ⟨⟨rfl, by decide⟩, rfl, by decide⟩

/-- A SET.PC and a delivery that change PC. -/
theorem witness_OnlySetPcDoexcAndResetChangePc :
    (step (queued open0 (ask 0x1508)) = .next (left (step (queued open0 (ask 0x1508)))) ∧
      (left (step (queued open0 (ask 0x1508)))).pc ≠ (queued open0 (ask 0x1508)).pc) ∧
    (step (queued open0 (ask 0x4000)) = .next (left (step (queued open0 (ask 0x4000)))) ∧
      (left (step (queued open0 (ask 0x4000)))).pc ≠ (queued open0 (ask 0x4000)).pc) :=
  ⟨⟨rfl, by decide⟩, rfl, by decide⟩

/-- UPDSR, UPDFPSCR and DOEXC change them. -/
theorem witness_ShadowsAndExpevtCannotBeForged :
    (exec .updsr owesSr = .next (left (exec .updsr owesSr)) ∧ (left (exec .updsr owesSr)).oldSr ≠ owesSr.oldSr) ∧
    (exec .updfpscr owesFpscr = .next (left (exec .updfpscr owesFpscr)) ∧
      (left (exec .updfpscr owesFpscr)).oldFpscr ≠ owesFpscr.oldFpscr) ∧
    (exec (.doexc 0 0x180 0) open0 = .next (left (exec (.doexc 0 0x180 0) open0)) ∧
      (left (exec (.doexc 0 0x180 0) open0)).expevt ≠ open0.expevt) :=
  ⟨⟨rfl, by decide⟩, ⟨rfl, by decide⟩, rfl, by decide⟩

theorem witness_ConfigurationIsConstantBetweenResets :
    step (queued open0 (.reset false)) = .next (left (step (queued open0 (.reset false)))) ∧
    (left (step (queued open0 (.reset false)))).fullMMU = false := ⟨rfl, rfl⟩

theorem witness_ResetInputGivesTheStatedValues : (queued stopped (.reset false)).inputs = .reset false :: [] ∧
    (queued stopped (.reset false)).params.hostFpuCtl = true := by decide

theorem witness_EveryStepKeepsTheDerivedState : Derived (queued owesSr (ask 0x3000)) ∧
    step (queued owesSr (ask 0x3000)) = .next (left (step (queued owesSr (ask 0x3000)))) :=
  ⟨⟨rfl, rfl, rfl, rfl, rfl⟩, rfl⟩

theorem witness_EveryStepKeepsReservedBitsClear : Coherent (queued start (ask 0x1500)).params ∧
    ReservedClear (queued start (ask 0x1500)) ∧
    step (queued start (ask 0x1500)) = .next (left (step (queued start (ask 0x1500)))) :=
  ⟨⟨rfl, rfl⟩, ⟨rfl, rfl, rfl, rfl⟩, rfl⟩

theorem witness_EveryStepKeepsTheOutputsLegal : Outputs (queued noMmu (ask 0x4100)) ∧
    step (queued noMmu (ask 0x4100)) = .next (left (step (queued noMmu (ask 0x4100)))) :=
  ⟨⟨rfl, by decide⟩, rfl⟩

/-- A running state with a table set, for each width. -/
theorem witness_EveryTotalFunctionIsANanHook :
    State.fatal { start with params := { Params.default with fixNan32 := .table [(1, 2)], fixNan64 := .table [(3, 4)] } }
      = false ∧
    Params.fixNan32 { Params.default with fixNan32 := .table [(1, 2)] } = .table [(1, 2)] ∧
    Params.fixNan64 { Params.default with fixNan64 := .table [(3, 4)] } = .table [(3, 4)] := ⟨rfl, rfl, rfl⟩

end Sys2Proof.Tests
end

/-! ## The switch of the general-register bank (R25) -/

namespace Sys2Proof.Machine

/-! A switch of `gprBank` over unchanged storage exchanges the two views of r0..r7 and leaves r8..r15 alone. -/

section BankSwitch

variable {s t : State}

theorem State.gb_eq_of_storage_eq (h0 : t.gb0 = s.gb0) (h1 : t.gb1 = s.gb1) (b : Bool) : t.gb b = s.gb b := by
  cases b with
  | false => exact h0
  | true => exact h1

/-- The active view of r[n] for n < 8 (R23). -/
theorem State.readR_low (s : State) {n : Fin 8} {m : Fin 16} (h : m.val = n.val) :
    s.readR m = (s.gb s.gprBank)[n.val] := by
  simp [State.readR, h]

/-- r[8..15] do not depend on the bank (R23). -/
theorem State.readR_high_eq_of_rh_eq {m : Fin 16} (h : 8 ≤ m.val) (hr : t.rh = s.rh) : t.readR m = s.readR m := by
  simp [State.readR, Nat.not_lt.mpr h, hr]

/-- After the switch r[n] shows what r_bank[n] showed. -/
theorem State.readR_eq_readRBank_of_switch (hb : t.gprBank = !s.gprBank) (hgb : ∀ b, t.gb b = s.gb b)
    {n : Fin 8} {m : Fin 16} (h : m.val = n.val) : t.readR m = s.readRBank n := by
  rw [t.readR_low h, hgb, hb, State.readRBank]

/-- After the switch r_bank[n] shows what r[n] showed. -/
theorem State.readRBank_eq_readR_of_switch (hb : t.gprBank = !s.gprBank) (hgb : ∀ b, t.gb b = s.gb b)
    {n : Fin 8} {m : Fin 16} (h : m.val = n.val) : t.readRBank n = s.readR m :=
  (State.readR_eq_readRBank_of_switch (by simp [hb]) (fun b => (hgb b).symm) h).symm

end BankSwitch

/-- An operation that switches the bank is UPDSR or DOEXC, and it writes no general register (R25, R181, R196). -/
theorem Effect.of_gprBank_ne {i : Instr} {s t : State} (he : Effect i s t) (hb : t.gprBank ≠ s.gprBank) :
    (i = .updsr ∨ ∃ pc evt vec, i = .doexc pc evt vec) ∧ t.gb0 = s.gb0 ∧ t.gb1 = s.gb1 ∧ t.rh = s.rh := by
  cases he with
  | updsr _ hi => exact ⟨.inl hi, rfl, rfl, rfl⟩
  | delivered pc evt vec _ hi => exact ⟨.inr ⟨pc, evt, vec, hi⟩, rfl, rfl, rfl⟩
  | _ => simp [State.ok] at hb

/-- A step that switches the bank took a reset, or a request for UPDSR or DOEXC that wrote no general register. -/
theorem step_of_gprBank_ne {s t : State} (h : step s = .next t) (hb : t.gprBank ≠ s.gprBank) :
    (∃ m rest, s.inputs = .reset m :: rest) ∨
    ((∃ r rest, s.inputs = .request r :: rest ∧
        (decode r = some .updsr ∨ ∃ pc evt vec, decode r = some (.doexc pc evt vec))) ∧
      t.gb0 = s.gb0 ∧ t.gb1 = s.gb1 ∧ t.rh = s.rh) := by
  obtain ⟨_, rfl⟩ | ⟨r, rest, i, hin, hd, he⟩ | ⟨r, rest, _, _, ht⟩ | ⟨m, rest, hin, _⟩ := step_cases h
  · exact absurd rfl hb
  · obtain ⟨hi, hgb0, hgb1, hrh⟩ := he.of_gprBank_ne hb
    refine .inr ⟨⟨r, rest, hin, ?_⟩, hgb0, hgb1, hrh⟩
    simpa [hd] using hi
  · obtain ⟨_, rfl⟩ | ⟨_, rfl⟩ := ht <;> exact absurd rfl hb
  · exact .inl ⟨m, rest, hin⟩

/-- Settles O50: the inversion of a step that switches the bank, and the exchange of the views over unchanged
storage. -/
theorem onlyUpdsrDoexcAndResetSwitchTheBank : Obligations.OnlyUpdsrDoexcAndResetSwitchTheBank := by
  intro s t h hb
  refine (step_of_gprBank_ne h hb).imp_right fun ⟨hreq, hgb0, hgb1, hrh⟩ => ?_
  have hswitch : t.gprBank = !s.gprBank := Bool.eq_not.mpr hb
  have hgb := State.gb_eq_of_storage_eq hgb0 hgb1
  exact ⟨hreq, hgb0, hgb1, hrh,
    fun _ _ hm => ⟨State.readR_eq_readRBank_of_switch hswitch hgb hm, State.readRBank_eq_readR_of_switch hswitch hgb hm⟩,
    fun _ hm => State.readR_high_eq_of_rh_eq hm hrh⟩

end Sys2Proof.Machine

/-! ## The register file: command words, views and answers (R120 to R151) -/

namespace Sys2Proof.Machine

open Sys2Proof.Safety

/-! ### The command words of the family (R92, R93, R96) -/

theorem indexN3_eq_none {sel : Nat} : indexN3 sel = none ↔ 8 ≤ sel := by
  simp [indexN3]

theorem decode_of_op_getr {r : Request} (h : r.op = 0x10) : decode r = (indexN4 r.sel).map .getr := by
  simp [decode, h]

theorem decode_of_op_setr {r : Request} (h : r.op = 0x11) : decode r = (indexN4 r.sel).map (.setr · (loWord r.a)) := by
  simp [decode, h]

theorem decode_of_op_getrb {r : Request} (h : r.op = 0x12) : decode r = (indexN3 r.sel).map .getrb := by
  simp [decode, h]

theorem decode_of_op_setrb {r : Request} (h : r.op = 0x13) :
    decode r = (indexN3 r.sel).map (.setrb · (loWord r.a)) := by
  simp [decode, h]

theorem decode_of_op_get {r : Request} (h : r.op = 0x14) : decode r = decodeGet r.sel := by
  simp [decode, h]

theorem decode_of_op_set {r : Request} (h : r.op = 0x15) : decode r = decodeSet r.sel (loWord r.a) := by
  simp [decode, h]

theorem decode_of_op_getmac {r : Request} (h : r.op = 0x16) : decode r = noSelector r.sel .getmac := by
  simp [decode, h]

theorem decode_of_op_setmac {r : Request} (h : r.op = 0x17) : decode r = noSelector r.sel (.setmac r.a) := by
  simp [decode, h]

/-- A command word is known by its two fields. -/
theorem selects_of_op_sel {op sel : Nat} (ho : op < 256) (hs : sel < 256) {i : DWord → Word → Word → Instr}
    (hdec : ∀ r : Request, r.op = op → r.sel = sel → decode r = some (i r.a r.b r.c)) :
    Selects (op * 256 + sel) i :=
  fun a b c => hdec ⟨cmdOf op sel, a, b, c⟩ (op_cmdOf ho hs) (sel_cmdOf ho hs)

/-- Where an operation code decodes by format N4, its sixteen words select the operation at each index. -/
theorem selects_of_indexN4 {op : Nat} (ho : op < 256) {f : DWord → Fin 16 → Instr}
    (hdec : ∀ {r : Request}, r.op = op → decode r = (indexN4 r.sel).map (f r.a)) (n : Fin 16) :
    Selects (op * 256 + n.val) (fun a _ _ => f a n) :=
  selects_of_op_sel ho (by omega) fun r hop hsel => by
    rw [hdec hop, indexN4_eq_some.2 hsel, Option.map_some]

/-- Where an operation code decodes by format N3, its eight words select the operation at each index. -/
theorem selects_of_indexN3 {op : Nat} (ho : op < 256) {f : DWord → Fin 8 → Instr}
    (hdec : ∀ {r : Request}, r.op = op → decode r = (indexN3 r.sel).map (f r.a)) (n : Fin 8) :
    Selects (op * 256 + n.val) (fun a _ _ => f a n) :=
  selects_of_op_sel ho (by omega) fun r hop hsel => by
    rw [hdec hop, indexN3_eq_some.2 hsel, Option.map_some]

/-- Where an operation code decodes by format N3, a selector of 8 or more is reserved. -/
theorem decode_eq_none_of_indexN3 {op sel : Nat} (ho : op < 256) (hs : sel < 256) (h8 : 8 ≤ sel)
    {f : DWord → Fin 8 → Instr} (hdec : ∀ {r : Request}, r.op = op → decode r = (indexN3 r.sel).map (f r.a))
    (a : DWord) (b c : Word) : decode ⟨cmdOf op sel, a, b, c⟩ = none := by
  have hop : Request.op ⟨cmdOf op sel, a, b, c⟩ = op := op_cmdOf ho hs
  have hsel : Request.sel ⟨cmdOf op sel, a, b, c⟩ = sel := sel_cmdOf ho hs
  rw [hdec hop, hsel, indexN3_eq_none.2 h8, Option.map_none]

/-- Where an operation code decodes by format Z, its one word selects the operation. -/
theorem selects_of_noSelector {op : Nat} (ho : op < 256) {f : DWord → Instr}
    (hdec : ∀ {r : Request}, r.op = op → decode r = noSelector r.sel (f r.a)) :
    Selects (op * 256 + 0) (fun a _ _ => f a) :=
  selects_of_op_sel ho (by decide) fun _ hop hsel => by
    rw [hdec hop, noSelector_eq_some]
    exact ⟨hsel, rfl⟩

theorem selects_getr (n : Fin 16) : Selects (0x1000 + n.val) (fun _ _ _ => .getr n) :=
  selects_of_indexN4 (op := 0x10) (f := fun _ => .getr) (by decide) decode_of_op_getr n

theorem selects_setr (n : Fin 16) : Selects (0x1100 + n.val) (fun a _ _ => .setr n (loWord a)) :=
  selects_of_indexN4 (op := 0x11) (f := fun a n => .setr n (loWord a)) (by decide) decode_of_op_setr n

theorem selects_getrb (n : Fin 8) : Selects (0x1200 + n.val) (fun _ _ _ => .getrb n) :=
  selects_of_indexN3 (op := 0x12) (f := fun _ => .getrb) (by decide) decode_of_op_getrb n

theorem selects_setrb (n : Fin 8) : Selects (0x1300 + n.val) (fun a _ _ => .setrb n (loWord a)) :=
  selects_of_indexN3 (op := 0x13) (f := fun a n => .setrb n (loWord a)) (by decide) decode_of_op_setrb n

theorem selects_getmac : Selects 0x1600 (fun _ _ _ => .getmac) :=
  selects_of_noSelector (op := 0x16) (f := fun _ => .getmac) (by decide) decode_of_op_getmac

theorem selects_setmac : Selects 0x1700 (fun a _ _ => .setmac a) :=
  selects_of_noSelector (op := 0x17) (f := .setmac) (by decide) decode_of_op_setmac

/-! ### The views of the general registers, down to the physical words (R22 to R24) -/

theorem State.getElem_gb (s : State) (b : Bool) (n : Nat) (h : n < 8) :
    (s.gb b)[n] = if b = false then s.gb0[n] else s.gb1[n] := by
  cases b <;> rfl

theorem State.setGb_eq_ite (s : State) (b : Bool) (n : Fin 8) (v : Word) :
    s.setGb b n v =
      if b = false then { s with gb0 := s.gb0.set n.val v } else { s with gb1 := s.gb1.set n.val v } := by
  cases b <;> rfl

theorem State.readR_eq_physical (s : State) (n : Fin 16) :
    s.readR n = if h : n.val < 8 then (if s.gprBank = false then s.gb0[n.val] else s.gb1[n.val])
      else s.rh[n.val - 8] := by
  simp only [State.readR, State.getElem_gb]

theorem State.writeR_eq_physical (s : State) (n : Fin 16) (v : Word) :
    s.writeR n v = if h : n.val < 8 then
        (if s.gprBank = false then { s with gb0 := s.gb0.set n.val v } else { s with gb1 := s.gb1.set n.val v })
      else { s with rh := s.rh.set (n.val - 8) v } := by
  simp only [State.writeR, State.setGb_eq_ite]

theorem State.readRBank_eq_physical (s : State) (n : Fin 8) :
    s.readRBank n = if s.gprBank = false then s.gb1[n.val] else s.gb0[n.val] := by
  rw [State.readRBank, State.getElem_gb]
  cases s.gprBank <;> rfl

theorem State.writeRBank_eq_physical (s : State) (n : Fin 8) (v : Word) :
    s.writeRBank n v =
      if s.gprBank = false then { s with gb1 := s.gb1.set n.val v } else { s with gb0 := s.gb0.set n.val v } := by
  rw [State.writeRBank, State.setGb_eq_ite]
  cases s.gprBank <;> rfl

/-! ### What a running block answers -/

section Running

variable {s : State} {cmd : Nat}

/-- A meaning that answers a 64-bit value and writes nothing. -/
theorem answers_of_exec_okQ {i : Instr} {f : State → DWord} (hf : s.fatal = false)
    (hexec : exec i s = complete s fun s => s.okQ (f s)) : Answers (exec i s) s (f s) :=
  hexec.trans (complete_running hf _)

/-- A meaning that writes the state and answers no result. -/
theorem answers_of_exec_ok {i : Instr} {op : State → State} (hf : s.fatal = false)
    (hexec : exec i s = complete s fun s => (op s).ok) : Answers (exec i s) (op s) 0 :=
  hexec.trans (complete_running hf _)

theorem readsWord_of_exec {i : Instr} {f : State → Word} (hf : s.fatal = false) (hsel : Selects cmd fun _ _ _ => i)
    (hexec : exec i s = complete s fun s => s.okWord (f s)) : ReadsWord s cmd i (f s) :=
  ⟨hsel, answers_of_exec_okQ (f := fun s => zext64 (f s)) hf hexec⟩

theorem writesWord_of_exec {i : Word → Instr} {op : State → Word → State} (hf : s.fatal = false)
    (hsel : Selects cmd fun a _ _ => i (loWord a))
    (hexec : ∀ v, exec (i v) s = complete s fun s => (op s v).ok) : WritesWord s cmd i (op s) :=
  ⟨hsel, fun v => answers_of_exec_ok (op := fun s => op s v) hf (hexec v)⟩

end Running

/-! ### GET.x and SET.x of the twelve scalar registers, said once (R96, R125 to R148) -/

/-- The scalar identifier of a register that can be both read and written (R96). -/
def ScalarReg.ident : ScalarReg → Nat
  | .sr => 0x00
  | .ssr => 0x01
  | .spc => 0x02
  | .sgr => 0x03
  | .dbr => 0x04
  | .vbr => 0x05
  | .pr => 0x06
  | .fpul => 0x07
  | .pc => 0x08
  | .fpscr => 0x09
  | .mach => 0x0A
  | .macl => 0x0B

/-- GET.x of a scalar register. -/
def ScalarReg.getInstr : ScalarReg → Instr
  | .sr => .getSr
  | .ssr => .getSsr
  | .spc => .getSpc
  | .sgr => .getSgr
  | .dbr => .getDbr
  | .vbr => .getVbr
  | .pr => .getPr
  | .fpul => .getFpul
  | .pc => .getPc
  | .fpscr => .getFpscr
  | .mach => .getMach
  | .macl => .getMacl

/-- SET.x of a scalar register. -/
def ScalarReg.setInstr : ScalarReg → Word → Instr
  | .sr => .setSr
  | .ssr => .setSsr
  | .spc => .setSpc
  | .sgr => .setSgr
  | .dbr => .setDbr
  | .vbr => .setVbr
  | .pr => .setPr
  | .fpul => .setFpul
  | .pc => .setPc
  | .fpscr => .setFpscr
  | .mach => .setMach
  | .macl => .setMacl

theorem ScalarReg.ident_lt (x : ScalarReg) : x.ident < 256 := by
  cases x <;> decide

theorem decodeGet_ident (x : ScalarReg) : decodeGet x.ident = some x.getInstr := by
  cases x <;> rfl

theorem decodeSet_ident (x : ScalarReg) (v : Word) : decodeSet x.ident v = some (x.setInstr v) := by
  cases x <;> rfl

theorem selects_getInstr (x : ScalarReg) : Selects (0x14 * 256 + x.ident) (fun _ _ _ => x.getInstr) :=
  selects_of_op_sel (by decide) x.ident_lt fun _ hop hsel => by
    rw [decode_of_op_get hop, hsel, decodeGet_ident]

theorem selects_setInstr (x : ScalarReg) : Selects (0x15 * 256 + x.ident) (fun a _ _ => x.setInstr (loWord a)) :=
  selects_of_op_sel (by decide) x.ident_lt fun _ hop hsel => by
    rw [decode_of_op_set hop, hsel, decodeSet_ident]

theorem exec_getInstr (x : ScalarReg) (s : State) :
    exec x.getInstr s = complete s fun s => s.okWord (s.readScalar x) := by
  cases x <;> rfl

theorem exec_setInstr (x : ScalarReg) (v : Word) (s : State) :
    exec (x.setInstr v) s = complete s fun s => (s.writeScalar x v).ok := by
  cases x <;> rfl

/-- GET.x answers the raw register and changes nothing. -/
theorem readsWord_getInstr {s : State} (hf : s.fatal = false) (x : ScalarReg) :
    ReadsWord s (0x14 * 256 + x.ident) x.getInstr (s.readScalar x) :=
  readsWord_of_exec (f := fun s => s.readScalar x) hf (selects_getInstr x) (exec_getInstr x s)

/-- SET.x leaves what `State.writeScalar` writes and changes nothing else. -/
theorem writesWord_setInstr {s : State} (hf : s.fatal = false) (x : ScalarReg) :
    WritesWord s (0x15 * 256 + x.ident) x.setInstr (s.writeScalar x) :=
  writesWord_of_exec (op := fun s => s.writeScalar x) hf (selects_setInstr x) (exec_setInstr x · s)

/-! ### The register-file statements -/

/-- Settles O11: the views resolved to physical words, and the index format N3. -/
theorem getrReadsTheActiveViewAndGetrbTheOther : Obligations.GetrReadsTheActiveViewAndGetrbTheOther := by
  refine ⟨fun s hf => ⟨fun n => ?_, fun n => ?_⟩, fun n a b c h8 hn => ?_⟩
  · rw [← s.readR_eq_physical n]
    exact readsWord_of_exec (f := (·.readR n)) hf (selects_getr n) rfl
  · rw [← s.readRBank_eq_physical n]
    exact readsWord_of_exec (f := (·.readRBank n)) hf (selects_getrb n) rfl
  · exact decode_eq_none_of_indexN3 (op := 0x12) (f := fun _ => .getrb) (by decide) hn h8 decode_of_op_getrb a b c

/-- Settles O12: the write of the active view resolved to its physical word. -/
theorem setrWritesOneWordOfTheActiveView : Obligations.SetrWritesOneWordOfTheActiveView := by
  intro s hf n
  simp only [← State.writeR_eq_physical]
  exact writesWord_of_exec (op := (·.writeR n)) hf (selects_setr n) fun _ => rfl

/-- Settles O13: the write of the inactive bank resolved to its physical word. -/
theorem setrbWritesOneWordOfTheInactiveBank : Obligations.SetrbWritesOneWordOfTheInactiveBank := by
  intro s hf n
  simp only [← State.writeRBank_eq_physical]
  exact writesWord_of_exec (op := (·.writeRBank n)) hf (selects_setrb n) fun _ => rfl

/-- Settles O15: the rule of GET.x at its eight plain registers. -/
theorem getScalarReturnsTheRegister : Obligations.GetScalarReturnsTheRegister := by
  intro s hf
  have reads := readsWord_getInstr hf
  exact ⟨reads .ssr, reads .spc, reads .sgr, reads .dbr, reads .vbr, reads .pr, reads .fpul, reads .pc⟩

/-- Settles O17: the rule of SET.x at its eight plain registers. -/
theorem setScalarStoresTheOperand : Obligations.SetScalarStoresTheOperand := by
  intro s hf
  have writes := writesWord_setInstr hf
  exact ⟨writes .ssr, writes .spc, writes .sgr, writes .dbr, writes .vbr, writes .pr, writes .fpul, writes .pc⟩

/-- Settles O18: the rule of SET.x at the two masked registers. -/
theorem setStatusIsARawMaskedWrite : Obligations.SetStatusIsARawMaskedWrite :=
  fun _ hf => ⟨writesWord_setInstr hf .sr, writesWord_setInstr hf .fpscr⟩

/-- Settles O19: the rule of GET.x at the halves of MAC, and GETMAC. -/
theorem macReadsItsHalves : Obligations.MacReadsItsHalves :=
  fun _ hf => ⟨readsWord_getInstr hf .mach, readsWord_getInstr hf .macl, selects_getmac,
    answers_of_exec_okQ (f := State.mac) hf rfl⟩

/-- Settles O20: the rule of SET.x at the halves of MAC, and SETMAC. -/
theorem macWritesItsHalves : Obligations.MacWritesItsHalves :=
  fun _ hf => ⟨writesWord_setInstr hf .mach, writesWord_setInstr hf .macl, selects_setmac,
    fun v => answers_of_exec_ok (op := fun s => { s with mac := v }) hf rfl⟩

end Sys2Proof.Machine

/-! ## The floating-point views: command words, slots, doubles and answers (R160 to R168) -/

namespace Sys2Proof.Machine

open Sys2Proof.Safety

/-! ### The command words of the family (R92, R93) -/

theorem decode_of_op_getfr {r : Request} (h : r.op = 0x20) : decode r = (indexN4 r.sel).map .getfr := by
  simp [decode, h]

theorem decode_of_op_setfr {r : Request} (h : r.op = 0x21) :
    decode r = (indexN4 r.sel).map (.setfr · (loWord r.a)) := by
  simp [decode, h]

theorem decode_of_op_getxf {r : Request} (h : r.op = 0x22) : decode r = (indexN4 r.sel).map .getxf := by
  simp [decode, h]

theorem decode_of_op_setxf {r : Request} (h : r.op = 0x23) :
    decode r = (indexN4 r.sel).map (.setxf · (loWord r.a)) := by
  simp [decode, h]

theorem decode_of_op_getdr {r : Request} (h : r.op = 0x24) : decode r = (indexN3 r.sel).map .getdr := by
  simp [decode, h]

theorem decode_of_op_setdr {r : Request} (h : r.op = 0x25) : decode r = (indexN3 r.sel).map (.setdr · r.a) := by
  simp [decode, h]

theorem decode_of_op_getxd {r : Request} (h : r.op = 0x26) : decode r = (indexN3 r.sel).map .getxd := by
  simp [decode, h]

theorem decode_of_op_setxd {r : Request} (h : r.op = 0x27) : decode r = (indexN3 r.sel).map (.setxd · r.a) := by
  simp [decode, h]

theorem selects_getfr (n : Fin 16) : Selects (0x2000 + n.val) (fun _ _ _ => .getfr n) :=
  selects_of_indexN4 (op := 0x20) (f := fun _ => .getfr) (by decide) decode_of_op_getfr n

theorem selects_setfr (n : Fin 16) : Selects (0x2100 + n.val) (fun a _ _ => .setfr n (loWord a)) :=
  selects_of_indexN4 (op := 0x21) (f := fun a n => .setfr n (loWord a)) (by decide) decode_of_op_setfr n

theorem selects_getxf (n : Fin 16) : Selects (0x2200 + n.val) (fun _ _ _ => .getxf n) :=
  selects_of_indexN4 (op := 0x22) (f := fun _ => .getxf) (by decide) decode_of_op_getxf n

theorem selects_setxf (n : Fin 16) : Selects (0x2300 + n.val) (fun a _ _ => .setxf n (loWord a)) :=
  selects_of_indexN4 (op := 0x23) (f := fun a n => .setxf n (loWord a)) (by decide) decode_of_op_setxf n

theorem selects_getdr (n : Fin 8) : Selects (0x2400 + n.val) (fun _ _ _ => .getdr n) :=
  selects_of_indexN3 (op := 0x24) (f := fun _ => .getdr) (by decide) decode_of_op_getdr n

theorem selects_setdr (n : Fin 8) : Selects (0x2500 + n.val) (fun a _ _ => .setdr n a) :=
  selects_of_indexN3 (op := 0x25) (f := fun a n => .setdr n a) (by decide) decode_of_op_setdr n

theorem selects_getxd (n : Fin 8) : Selects (0x2600 + n.val) (fun _ _ _ => .getxd n) :=
  selects_of_indexN3 (op := 0x26) (f := fun _ => .getxd) (by decide) decode_of_op_getxd n

theorem selects_setxd (n : Fin 8) : Selects (0x2700 + n.val) (fun a _ _ => .setxd n a) :=
  selects_of_indexN3 (op := 0x27) (f := fun a n => .setxd n a) (by decide) decode_of_op_setxd n

/-! ### The views of the floating-point registers, down to the physical slots (R47, R48) -/

theorem State.getElem_fb (s : State) (b : Bool) (n : Nat) (h : n < 16) :
    (s.fb b)[n] = if b = false then s.fb0[n] else s.fb1[n] := by
  cases b <;> rfl

theorem State.setFb_eq_ite (s : State) (b : Bool) (n : Fin 16) (v : Word) :
    s.setFb b n v =
      if b = false then { s with fb0 := s.fb0.set n.val v } else { s with fb1 := s.fb1.set n.val v } := by
  cases b <;> rfl

theorem State.readFr_eq_physical (s : State) (n : Fin 16) :
    s.readFr n = if s.fpBank = false then s.fb0[n.val] else s.fb1[n.val] := by
  rw [State.readFr, State.getElem_fb]

theorem State.writeFr_eq_physical (s : State) (n : Fin 16) (v : Word) :
    s.writeFr n v =
      if s.fpBank = false then { s with fb0 := s.fb0.set n.val v } else { s with fb1 := s.fb1.set n.val v } := by
  rw [State.writeFr, State.setFb_eq_ite]

theorem State.readXf_eq_physical (s : State) (n : Fin 16) :
    s.readXf n = if s.fpBank = false then s.fb1[n.val] else s.fb0[n.val] := by
  rw [State.readXf, State.getElem_fb]
  cases s.fpBank <;> rfl

theorem State.writeXf_eq_physical (s : State) (n : Fin 16) (v : Word) :
    s.writeXf n v =
      if s.fpBank = false then { s with fb1 := s.fb1.set n.val v } else { s with fb0 := s.fb0.set n.val v } := by
  rw [State.writeXf, State.setFb_eq_ite]
  cases s.fpBank <;> rfl

/-! ### The doubles of one bank: `dr` and `xd` are the same function of two banks (R50, R51) -/

/-- Double n of FB[b]. -/
def State.fbDouble (s : State) (b : Bool) (n : Fin 8) : DWord :=
  joinWords (s.fb b)[(evenSlot n).val] (s.fb b)[(oddSlot n).val]

/-- Write both slots of double n of FB[b]. -/
def State.setFbDouble (s : State) (b : Bool) (n : Fin 8) (v : DWord) : State :=
  (s.setFb b (evenSlot n) (hiWord v)).setFb b (oddSlot n) (loWord v)

theorem State.readDr_eq_fbDouble (s : State) (n : Fin 8) : s.readDr n = s.fbDouble s.fpBank n := rfl

theorem State.readXd_eq_fbDouble (s : State) (n : Fin 8) : s.readXd n = s.fbDouble (!s.fpBank) n := rfl

theorem State.writeDr_eq_setFbDouble (s : State) (n : Fin 8) (v : DWord) :
    s.writeDr n v = s.setFbDouble s.fpBank n v := by
  simp only [State.writeDr, State.writeFr, State.setFb_fpBank, State.setFbDouble]

theorem State.writeXd_eq_setFbDouble (s : State) (n : Fin 8) (v : DWord) :
    s.writeXd n v = s.setFbDouble (!s.fpBank) n v := by
  simp only [State.writeXd, State.writeXf, State.setFb_fpBank, State.setFbDouble]

theorem State.fbDouble_eq_ite (s : State) (b : Bool) (n : Fin 8) :
    s.fbDouble b n =
      if b = false then s.fb0[2 * n.val] ++ s.fb0[2 * n.val + 1] else s.fb1[2 * n.val] ++ s.fb1[2 * n.val + 1] := by
  cases b <;> rfl

theorem State.setFbDouble_eq_ite (s : State) (b : Bool) (n : Fin 8) (v : DWord) :
    s.setFbDouble b n v =
      if b = false then { s with fb0 := (s.fb0.set (2 * n.val) (hiWord v)).set (2 * n.val + 1) (loWord v) }
      else { s with fb1 := (s.fb1.set (2 * n.val) (hiWord v)).set (2 * n.val + 1) (loWord v) } := by
  cases b <;> rfl

theorem State.readDr_eq_physical (s : State) (n : Fin 8) :
    s.readDr n = if s.fpBank = false then s.fb0[2 * n.val] ++ s.fb0[2 * n.val + 1]
      else s.fb1[2 * n.val] ++ s.fb1[2 * n.val + 1] := by
  rw [State.readDr_eq_fbDouble, State.fbDouble_eq_ite]

theorem State.readXd_eq_physical (s : State) (n : Fin 8) :
    s.readXd n = if s.fpBank = false then s.fb1[2 * n.val] ++ s.fb1[2 * n.val + 1]
      else s.fb0[2 * n.val] ++ s.fb0[2 * n.val + 1] := by
  rw [State.readXd_eq_fbDouble, State.fbDouble_eq_ite]
  cases s.fpBank <;> rfl

theorem State.writeDr_eq_physical (s : State) (n : Fin 8) (v : DWord) :
    s.writeDr n v = if s.fpBank = false
      then { s with fb0 := (s.fb0.set (2 * n.val) (hiWord v)).set (2 * n.val + 1) (loWord v) }
      else { s with fb1 := (s.fb1.set (2 * n.val) (hiWord v)).set (2 * n.val + 1) (loWord v) } := by
  rw [State.writeDr_eq_setFbDouble, State.setFbDouble_eq_ite]

theorem State.writeXd_eq_physical (s : State) (n : Fin 8) (v : DWord) :
    s.writeXd n v = if s.fpBank = false
      then { s with fb1 := (s.fb1.set (2 * n.val) (hiWord v)).set (2 * n.val + 1) (loWord v) }
      else { s with fb0 := (s.fb0.set (2 * n.val) (hiWord v)).set (2 * n.val + 1) (loWord v) } := by
  rw [State.writeXd_eq_setFbDouble, State.setFbDouble_eq_ite]
  cases s.fpBank <;> rfl

/-- A slot of the bank after a write of one slot of it. -/
theorem State.getElem_fb_setFb (s : State) (b : Bool) (n m : Fin 16) (v : Word) :
    ((s.setFb b n v).fb b)[m.val] = if m = n then v else (s.fb b)[m.val] := by
  simp [State.fb_setFb_same, Vector.getElem_set, Fin.ext_iff, eq_comm]

/-- An even slot is the high half of its double and of no other (R162, R164). -/
theorem State.fbDouble_setFb_evenSlot (s : State) (b : Bool) (n m : Fin 8) (v : Word) :
    (s.setFb b (evenSlot n) v).fbDouble b m =
      if m = n then joinWords v (loWord (s.fbDouble b m)) else s.fbDouble b m := by
  simp only [State.fbDouble, State.getElem_fb_setFb, evenSlot_inj, oddSlot_ne_evenSlot, if_false, loWord_joinWords]
  split <;> rfl

/-- An odd slot is the low half of its double and of no other (R162, R164). -/
theorem State.fbDouble_setFb_oddSlot (s : State) (b : Bool) (n m : Fin 8) (v : Word) :
    (s.setFb b (oddSlot n) v).fbDouble b m =
      if m = n then joinWords (hiWord (s.fbDouble b m)) v else s.fbDouble b m := by
  simp only [State.fbDouble, State.getElem_fb_setFb, oddSlot_inj, evenSlot_ne_oddSlot, if_false, hiWord_joinWords]
  split <;> rfl

theorem State.readDr_writeFr (s : State) (k : Fin 16) (m : Fin 8) (v : Word) :
    (s.writeFr k v).readDr m = (s.setFb s.fpBank k v).fbDouble s.fpBank m := by
  rw [State.readDr_eq_fbDouble, State.writeFr_fpBank, State.writeFr]

theorem State.readXd_writeXf (s : State) (k : Fin 16) (m : Fin 8) (v : Word) :
    (s.writeXf k v).readXd m = (s.setFb (!s.fpBank) k v).fbDouble (!s.fpBank) m := by
  rw [State.readXd_eq_fbDouble, State.writeXf_fpBank, State.writeXf]

/-! ### What a running block answers -/

theorem resultOf_of_answers {r : Result} {t : State} {q : DWord} (h : Answers r t q) : resultOf r = some q := by
  rw [h]
  rfl

/-- Of two operations, the second runs in the state the first leaves, with the first's answer as the last response. -/
theorem runAll_pair {i j : Instr} {s t : State} {q : DWord} (h : Answers (exec i s) t q) :
    runAll [i, j] s = exec j { t with response := some ⟨.ok, q, 0, 0⟩ } := by
  simp only [runAll, show exec i s = _ from h, andThen]
  cases exec j { t with response := some ⟨.ok, q, 0, 0⟩ } <;> rfl

section Running

variable {s : State}

theorem answers_getdr (hf : s.fatal = false) (n : Fin 8) : Answers (exec (.getdr n) s) s (s.readDr n) :=
  answers_of_exec_okQ (f := (·.readDr n)) hf rfl

theorem answers_getxd (hf : s.fatal = false) (n : Fin 8) : Answers (exec (.getxd n) s) s (s.readXd n) :=
  answers_of_exec_okQ (f := (·.readXd n)) hf rfl

theorem answers_setfr (hf : s.fatal = false) (n : Fin 16) (v : Word) :
    Answers (exec (.setfr n v) s) (s.writeFr n v) 0 :=
  answers_of_exec_ok (op := (·.writeFr n v)) hf rfl

theorem answers_setxf (hf : s.fatal = false) (n : Fin 16) (v : Word) :
    Answers (exec (.setxf n v) s) (s.writeXf n v) 0 :=
  answers_of_exec_ok (op := (·.writeXf n v)) hf rfl

/-- SETFR leaves fp_bank alone, so GETDR reads the bank it wrote. -/
theorem resultOf_setfr_getdr (hf : s.fatal = false) (k : Fin 16) (m : Fin 8) (v : Word) :
    resultOf (runAll [.setfr k v, .getdr m] s) = some ((s.setFb s.fpBank k v).fbDouble s.fpBank m) := by
  rw [runAll_pair (answers_setfr hf k v), resultOf_of_answers (answers_getdr (by simpa using hf) m),
    ← State.readDr_writeFr]
  rfl

/-- SETXF leaves fp_bank alone, so GETXD reads the bank it wrote. -/
theorem resultOf_setxf_getxd (hf : s.fatal = false) (k : Fin 16) (m : Fin 8) (v : Word) :
    resultOf (runAll [.setxf k v, .getxd m] s) = some ((s.setFb (!s.fpBank) k v).fbDouble (!s.fpBank) m) := by
  rw [runAll_pair (answers_setxf hf k v), resultOf_of_answers (answers_getxd (by simpa using hf) m),
    ← State.readXd_writeXf]
  rfl

end Running

/-! ### The floating-point view statements -/

/-- Settles O25: the write resolved to its physical slot, and the slot as half of its double, once for either bank. -/
theorem setfrWritesOneSlotOfItsBank : Obligations.SetfrWritesOneSlotOfItsBank := by
  refine fun s hf => ⟨fun n => ⟨?_, ?_⟩, fun n m v old hold => ?_, fun n m v old hold => ?_⟩
  · simp only [← State.writeFr_eq_physical]
    exact writesWord_of_exec (op := (·.writeFr n)) hf (selects_setfr n) fun _ => rfl
  · simp only [← State.writeXf_eq_physical]
    exact writesWord_of_exec (op := (·.writeXf n)) hf (selects_setxf n) fun _ => rfl
  · obtain rfl : s.fbDouble s.fpBank m = old :=
      Option.some.inj ((resultOf_of_answers (answers_getdr hf m)).symm.trans hold)
    simp only [resultOf_setfr_getdr hf, State.fbDouble_setFb_evenSlot, State.fbDouble_setFb_oddSlot, and_self]
  · obtain rfl : s.fbDouble (!s.fpBank) m = old :=
      Option.some.inj ((resultOf_of_answers (answers_getxd hf m)).symm.trans hold)
    simp only [resultOf_setxf_getxd hf, State.fbDouble_setFb_evenSlot, State.fbDouble_setFb_oddSlot, and_self]

/-- Settles O24: the two views resolved to physical slots. -/
theorem getfrReadsItsBankAndGetxfTheOther : Obligations.GetfrReadsItsBankAndGetxfTheOther := by
  intro s hf n
  rw [← s.readFr_eq_physical n, ← s.readXf_eq_physical n]
  exact ⟨readsWord_of_exec (f := (·.readFr n)) hf (selects_getfr n) rfl,
    readsWord_of_exec (f := (·.readXf n)) hf (selects_getxf n) rfl⟩

/-- Settles O26: the double resolved to its physical slots, and the index format N3. -/
theorem getdrJoinsTheEvenAndTheOddSlot : Obligations.GetdrJoinsTheEvenAndTheOddSlot := by
  refine ⟨fun s hf n => ?_, fun n a b c h8 hn => ⟨?_, ?_⟩⟩
  · rw [← s.readDr_eq_physical n, ← s.readXd_eq_physical n]
    exact ⟨selects_getdr n, selects_getxd n, answers_getdr hf n, answers_getxd hf n⟩
  · exact decode_eq_none_of_indexN3 (op := 0x24) (f := fun _ => .getdr) (by decide) hn h8 decode_of_op_getdr a b c
  · exact decode_eq_none_of_indexN3 (op := 0x26) (f := fun _ => .getxd) (by decide) hn h8 decode_of_op_getxd a b c

/-- Settles O27: the write of both slots resolved to physical slots, the operand being all of A. -/
theorem setdrSplitsIntoTheEvenAndTheOddSlot : Obligations.SetdrSplitsIntoTheEvenAndTheOddSlot := by
  refine fun s hf n => ⟨selects_setdr n, selects_setxd n, fun v => ⟨?_, ?_⟩⟩
  · exact s.writeDr_eq_physical n v ▸ answers_of_exec_ok (op := (·.writeDr n v)) hf rfl
  · exact s.writeXd_eq_physical n v ▸ answers_of_exec_ok (op := (·.writeXd n v)) hf rfl

end Sys2Proof.Machine

/-! ## The exception controller: the remap of ADJSLOT (R201, R202) -/

namespace Sys2Proof.Machine

/-- QB of ADJSLOT is the remapped event code. -/
theorem qb_of_exec_adjslot {s t : State} {r : Response} {epc evt vec : Word} (hf : s.fatal = false)
    (h : exec (.adjslot epc evt vec) s = .next t) (hr : t.response = some r) : r.qb = slotRemap evt := by
  obtain rfl := complete_inj hf (show execAdjslot epc evt vec s = .next t from h)
  obtain rfl := Option.some.inj hr
  rfl

/-- Settles O44: QB is the remapped code, and the remap table has these three rows. -/
theorem slotRemapIsTheFixedTable : Obligations.SlotRemapIsTheFixedTable := by
  intro s t epc evt vec r hf h hr
  rw [qb_of_exec_adjslot hf h hr]
  refine ⟨?_, ?_, slotRemap_other⟩
  · rintro rfl
    exact slotRemap_fpuDisable
  · rintro rfl
    exact slotRemap_illegal

end Sys2Proof.Machine

/-! ## Decoding the encoding of an operation (R90 to R101) -/

namespace Sys2Proof.Machine

open Sys2Proof.Safety

/-! ### The command words of the debug port, the NaN hooks and the control families (R92, R97) -/

theorem decode_of_op_peek {r : Request} (h : r.op = 0x18) : decode r = decodePeek r.sel := by
  simp [decode, h]

theorem decode_of_op_poke {r : Request} (h : r.op = 0x19) : decode r = decodePoke r.sel (loWord r.a) := by
  simp [decode, h]

theorem decode_of_op_fixnan {r : Request} (h : r.op = 0x28) :
    decode r = noSelector r.sel (.fixnan (loWord r.a)) := by
  simp [decode, h]

theorem decode_of_op_fixnan64 {r : Request} (h : r.op = 0x29) : decode r = noSelector r.sel (.fixnan64 r.a) := by
  simp [decode, h]

theorem decode_of_op_updsr {r : Request} (h : r.op = 0x30) : decode r = noSelector r.sel .updsr := by
  simp [decode, h]

theorem decode_of_op_updfpscr {r : Request} (h : r.op = 0x31) : decode r = noSelector r.sel .updfpscr := by
  simp [decode, h]

theorem decode_of_op_setfsr {r : Request} (h : r.op = 0x32) : decode r = noSelector r.sel .setfsr := by
  simp [decode, h]

theorem decode_of_op_doexc {r : Request} (h : r.op = 0x40) :
    decode r = noSelector r.sel (.doexc (loWord r.a) r.b r.c) := by
  simp [decode, h]

theorem decode_of_op_raisefpudis {r : Request} (h : r.op = 0x41) : decode r = noSelector r.sel .raisefpudis := by
  simp [decode, h]

theorem decode_of_op_adjslot {r : Request} (h : r.op = 0x42) :
    decode r = noSelector r.sel (.adjslot (loWord r.a) r.b r.c) := by
  simp [decode, h]

theorem selects_fixnan : Selects 0x2800 (fun a _ _ => .fixnan (loWord a)) :=
  selects_of_noSelector (op := 0x28) (f := fun a => .fixnan (loWord a)) (by decide) decode_of_op_fixnan

theorem selects_fixnan64 : Selects 0x2900 (fun a _ _ => .fixnan64 a) :=
  selects_of_noSelector (op := 0x29) (f := .fixnan64) (by decide) decode_of_op_fixnan64

theorem selects_updsr : Selects 0x3000 (fun _ _ _ => .updsr) :=
  selects_of_noSelector (op := 0x30) (f := fun _ => .updsr) (by decide) decode_of_op_updsr

theorem selects_updfpscr : Selects 0x3100 (fun _ _ _ => .updfpscr) :=
  selects_of_noSelector (op := 0x31) (f := fun _ => .updfpscr) (by decide) decode_of_op_updfpscr

theorem selects_setfsr : Selects 0x3200 (fun _ _ _ => .setfsr) :=
  selects_of_noSelector (op := 0x32) (f := fun _ => .setfsr) (by decide) decode_of_op_setfsr

theorem selects_raisefpudis : Selects 0x4100 (fun _ _ _ => .raisefpudis) :=
  selects_of_noSelector (op := 0x41) (f := fun _ => .raisefpudis) (by decide) decode_of_op_raisefpudis

/-- As `selects_of_noSelector`, for an operation that takes all three operand buses. -/
theorem selects_of_noSelector_triple {op : Nat} (ho : op < 256) {f : DWord → Word → Word → Instr}
    (hdec : ∀ {r : Request}, r.op = op → decode r = noSelector r.sel (f r.a r.b r.c)) :
    Selects (op * 256 + 0) f :=
  selects_of_op_sel ho (by decide) fun _ hop hsel => by
    rw [hdec hop, noSelector_eq_some]
    exact ⟨hsel, rfl⟩

theorem selects_doexc : Selects 0x4000 (fun a b c => .doexc (loWord a) b c) :=
  selects_of_noSelector_triple (op := 0x40) (f := fun a b c => .doexc (loWord a) b c) (by decide) decode_of_op_doexc

theorem selects_adjslot : Selects 0x4200 (fun a b c => .adjslot (loWord a) b c) :=
  selects_of_noSelector_triple (op := 0x42) (f := fun a b c => .adjslot (loWord a) b c) (by decide)
    decode_of_op_adjslot

/-- GET.EXPEVT has identifier 0x0E, which is no `ScalarReg` (R96). -/
theorem selects_getExpevt : Selects 0x140E (fun _ _ _ => .getExpevt) :=
  selects_of_op_sel (op := 0x14) (sel := 0x0E) (by decide) (by decide) fun _ hop hsel => by
    rw [decode_of_op_get hop, hsel]
    rfl

/-! An identifier is found in its own block of the debug table, after all the blocks below it (R97). -/

@[simp] theorem indexFrom_add (base : Nat) {size : Nat} (n : Fin size) : indexFrom base size (base + n.val) = some n :=
  indexFrom_eq_some.2 rfl

@[simp] theorem indexFrom_zero {size : Nat} (n : Fin size) : indexFrom 0 size n.val = some n :=
  indexFrom_eq_some.2 (Nat.zero_add _).symm

theorem indexFrom_eq_none_of_le {base size sel : Nat} (h : base + size ≤ sel) : indexFrom base size sel = none := by
  rw [indexFrom, dif_neg (by omega)]

/-- The six blocks of identifiers that can be both peeked and poked: size, first identifier, operations (R97). -/
inductive DebugBlock : (size base : Nat) → (Fin size → Instr) → (Fin size → Word → Instr) → Prop where
  | r : DebugBlock 16 0x00 .dbgPeekR .dbgPokeR
  | rBank : DebugBlock 8 0x10 .dbgPeekRBank .dbgPokeRBank
  | scalarLo : DebugBlock 8 0x20 .dbgPeekScalarLo .dbgPokeScalarLo
  | scalarHi : DebugBlock 4 0x28 .dbgPeekScalarHi .dbgPokeScalarHi
  | fr : DebugBlock 16 0x40 .dbgPeekFr .dbgPokeFr
  | xf : DebugBlock 16 0x50 .dbgPeekXf .dbgPokeXf

section DebugBlock

variable {size base : Nat} {peek : Fin size → Instr} {poke : Fin size → Word → Instr}

theorem DebugBlock.add_le (h : DebugBlock size base peek poke) : base + size ≤ 256 := by
  cases h <;> decide

theorem DebugBlock.decodePeek (h : DebugBlock size base peek poke) (n : Fin size) :
    decodePeek (base + n.val) = some (peek n) := by
  cases h <;> simp (disch := omega) [Sys2Proof.decodePeek, indexFrom_eq_none_of_le, if_neg]

theorem DebugBlock.decodePoke (h : DebugBlock size base peek poke) (n : Fin size) (v : Word) :
    decodePoke (base + n.val) v = some (poke n v) := by
  cases h <;> simp (disch := omega) [Sys2Proof.decodePoke, indexFrom_eq_none_of_le]

theorem DebugBlock.selects_peek (h : DebugBlock size base peek poke) (n : Fin size) :
    Selects (0x1800 + base + n.val) (fun _ _ _ => peek n) := by
  have hle := h.add_le
  rw [Nat.add_assoc]
  exact selects_of_op_sel (op := 0x18) (by decide) (by omega) fun _ hop hsel => by
    rw [decode_of_op_peek hop, hsel, h.decodePeek]

theorem DebugBlock.selects_poke (h : DebugBlock size base peek poke) (n : Fin size) :
    Selects (0x1900 + base + n.val) (fun a _ _ => poke n (loWord a)) := by
  have hle := h.add_le
  rw [Nat.add_assoc]
  exact selects_of_op_sel (op := 0x19) (by decide) (by omega) fun _ hop hsel => by
    rw [decode_of_op_poke hop, hsel, h.decodePoke]

end DebugBlock

theorem selects_dbgPeekShadow (id : Fin 2) : Selects (0x182C + id.val) (fun _ _ _ => .dbgPeekShadow id) := by
  rw [show 0x182C + id.val = 0x18 * 256 + (0x2C + id.val) by omega]
  refine selects_of_op_sel (by decide) (by omega) fun _ hop hsel => ?_
  rw [decode_of_op_peek hop, hsel]
  simp (disch := omega) [decodePeek, indexFrom_eq_none_of_le]

theorem selects_dbgPeekExpevt : Selects 0x182E (fun _ _ _ => .dbgPeekExpevt) :=
  selects_of_op_sel (op := 0x18) (sel := 0x2E) (by decide) (by decide) fun _ hop hsel => by
    rw [decode_of_op_peek hop, hsel]
    rfl

/-! ### The four shapes of an encoding, each decoded by the command word alone -/

section Shapes

variable {op sel : Nat}

theorem decode_bare {i : Instr} (h : Selects (op * 256 + sel) fun _ _ _ => i) : decode (bare op sel) = some i :=
  h 0 0 0

theorem decode_withWord {f : Word → Instr} (h : Selects (op * 256 + sel) fun a _ _ => f (loWord a)) (v : Word) :
    decode (withWord op sel v) = some (f v) :=
  (h (zext64 v) 0 0).trans (by simp only [loWord_zext64])

theorem decode_withDWord {f : DWord → Instr} (h : Selects (op * 256 + sel) fun a _ _ => f a) (v : DWord) :
    decode (withDWord op sel v) = some (f v) :=
  h v 0 0

theorem decode_withTriple {f : Word → Word → Word → Instr} (h : Selects (op * 256 + 0) fun a b c => f (loWord a) b c)
    (epc evt vec : Word) : decode (withTriple op epc evt vec) = some (f epc evt vec) :=
  (h (zext64 epc) evt vec).trans (by simp only [loWord_zext64])

/-- The encoding of a peek of a block names the identifier as first plus index. -/
theorem DebugBlock.decode_peek {size base : Nat} {peek : Fin size → Instr} {poke : Fin size → Word → Instr}
    (h : DebugBlock size base peek poke) (n : Fin size) : decode (bare 0x18 (base + n.val)) = some (peek n) :=
  decode_bare (by rw [← Nat.add_assoc]; exact h.selects_peek n)

theorem DebugBlock.decode_poke {size base : Nat} {peek : Fin size → Instr} {poke : Fin size → Word → Instr}
    (h : DebugBlock size base peek poke) (n : Fin size) (v : Word) :
    decode (withWord 0x19 (base + n.val) v) = some (poke n v) :=
  decode_withWord (by rw [← Nat.add_assoc]; exact h.selects_poke n) v

end Shapes

/-- Decoding inverts encoding, operation by operation (R99, R101). -/
theorem decode_encode (i : Instr) : decode (encode i) = some i := by
  cases i with
  | getr n => exact decode_bare (selects_getr n)
  | setr n v => exact decode_withWord (selects_setr n) v
  | getrb n => exact decode_bare (selects_getrb n)
  | setrb n v => exact decode_withWord (selects_setrb n) v
  | getSr => exact decode_bare (selects_getInstr .sr)
  | getSsr => exact decode_bare (selects_getInstr .ssr)
  | getSpc => exact decode_bare (selects_getInstr .spc)
  | getSgr => exact decode_bare (selects_getInstr .sgr)
  | getDbr => exact decode_bare (selects_getInstr .dbr)
  | getVbr => exact decode_bare (selects_getInstr .vbr)
  | getPr => exact decode_bare (selects_getInstr .pr)
  | getFpul => exact decode_bare (selects_getInstr .fpul)
  | getPc => exact decode_bare (selects_getInstr .pc)
  | getFpscr => exact decode_bare (selects_getInstr .fpscr)
  | getMach => exact decode_bare (selects_getInstr .mach)
  | getMacl => exact decode_bare (selects_getInstr .macl)
  | getExpevt => exact decode_bare selects_getExpevt
  | setSr v => exact decode_withWord (selects_setInstr .sr) v
  | setSsr v => exact decode_withWord (selects_setInstr .ssr) v
  | setSpc v => exact decode_withWord (selects_setInstr .spc) v
  | setSgr v => exact decode_withWord (selects_setInstr .sgr) v
  | setDbr v => exact decode_withWord (selects_setInstr .dbr) v
  | setVbr v => exact decode_withWord (selects_setInstr .vbr) v
  | setPr v => exact decode_withWord (selects_setInstr .pr) v
  | setFpul v => exact decode_withWord (selects_setInstr .fpul) v
  | setPc v => exact decode_withWord (selects_setInstr .pc) v
  | setFpscr v => exact decode_withWord (selects_setInstr .fpscr) v
  | setMach v => exact decode_withWord (selects_setInstr .mach) v
  | setMacl v => exact decode_withWord (selects_setInstr .macl) v
  | getmac => exact decode_bare selects_getmac
  | setmac v => exact decode_withDWord selects_setmac v
  | dbgPeekR n => exact decode_bare (DebugBlock.r.selects_peek n)
  | dbgPeekRBank n => exact DebugBlock.rBank.decode_peek n
  | dbgPeekScalarLo id => exact DebugBlock.scalarLo.decode_peek id
  | dbgPeekScalarHi id => exact DebugBlock.scalarHi.decode_peek id
  | dbgPeekShadow id => exact decode_bare (by rw [← Nat.add_assoc]; exact selects_dbgPeekShadow id)
  | dbgPeekExpevt => exact decode_bare selects_dbgPeekExpevt
  | dbgPeekFr n => exact DebugBlock.fr.decode_peek n
  | dbgPeekXf n => exact DebugBlock.xf.decode_peek n
  | dbgPokeR n v => exact decode_withWord (DebugBlock.r.selects_poke n) v
  | dbgPokeRBank n v => exact DebugBlock.rBank.decode_poke n v
  | dbgPokeScalarLo id v => exact DebugBlock.scalarLo.decode_poke id v
  | dbgPokeScalarHi id v => exact DebugBlock.scalarHi.decode_poke id v
  | dbgPokeFr n v => exact DebugBlock.fr.decode_poke n v
  | dbgPokeXf n v => exact DebugBlock.xf.decode_poke n v
  | getfr n => exact decode_bare (selects_getfr n)
  | setfr n v => exact decode_withWord (selects_setfr n) v
  | getxf n => exact decode_bare (selects_getxf n)
  | setxf n v => exact decode_withWord (selects_setxf n) v
  | getdr n => exact decode_bare (selects_getdr n)
  | setdr n v => exact decode_withDWord (selects_setdr n) v
  | getxd n => exact decode_bare (selects_getxd n)
  | setxd n v => exact decode_withDWord (selects_setxd n) v
  | fixnan v => exact decode_withWord selects_fixnan v
  | fixnan64 v => exact decode_withDWord selects_fixnan64 v
  | updsr => exact decode_bare selects_updsr
  | updfpscr => exact decode_bare selects_updfpscr
  | setfsr => exact decode_bare selects_setfsr
  | doexc pc evt vec => exact decode_withTriple selects_doexc pc evt vec
  | raisefpudis => exact decode_bare selects_raisefpudis
  | adjslot epc evt vec => exact decode_withTriple selects_adjslot epc evt vec

/-- Settles O4: every constructor's encoding has one of four shapes, whose command word selects that constructor. -/
theorem decodeOfEncodeIsTheOperation : Obligations.DecodeOfEncodeIsTheOperation := decode_encode

end Sys2Proof.Machine

/-! ## The decoder against the formats and the opcode table (R92 to R102) -/

namespace Sys2Proof.Machine

open Sys2Proof.Safety

/-! ### Which selectors each part of the decoder accepts (R102) -/

theorem isSome_indexN4 (sel : Nat) : (indexN4 sel).isSome = Format.n4.allows sel := by
  unfold indexN4
  split <;> simp_all [Format.allows]

theorem isSome_indexN3 (sel : Nat) : (indexN3 sel).isSome = Format.n3.allows sel := by
  unfold indexN3
  split <;> simp_all [Format.allows]

theorem isSome_noSelector (sel : Nat) (i : Instr) : (noSelector sel i).isSome = Format.z.allows sel := by
  unfold noSelector
  split <;> simp_all [Format.allows]

theorem isSome_indexFrom (base size sel : Nat) :
    (indexFrom base size sel).isSome = decide (base ≤ sel ∧ sel - base < size) := by
  unfold indexFrom
  split <;> simp_all

theorem isSome_decodeGet (sel : Nat) : (decodeGet sel).isSome = Format.idGet.allows sel := by
  unfold decodeGet
  split <;> simp_all [Format.allows]
  omega

theorem isSome_decodeSet (sel : Nat) (v : Word) : (decodeSet sel v).isSome = Format.idSet.allows sel := by
  unfold decodeSet
  split <;> simp_all [Format.allows]
  omega

theorem isSome_decodePeek (sel : Nat) : (decodePeek sel).isSome = Format.dbgPeek.allows sel := by
  rw [Bool.eq_iff_iff]
  simp [decodePeek, Format.allows, isSome_indexFrom]
  omega

theorem isSome_decodePoke (sel : Nat) (v : Word) : (decodePoke sel v).isSome = Format.dbgPoke.allows sel := by
  rw [Bool.eq_iff_iff]
  simp [decodePoke, Format.allows, isSome_indexFrom]
  omega

/-- Settles O3: the decoder and the formats branch on the same operation codes, and accept the same selectors. -/
theorem reservedWordsAreThoseOfTheFormats : Obligations.ReservedWordsAreThoseOfTheFormats := by
  intro r
  unfold decode Request.wf
  split <;> simp [*, formatOf, isSome_indexN4, isSome_indexN3, isSome_noSelector, isSome_decodeGet, isSome_decodeSet,
      isSome_decodePeek, isSome_decodePoke]

/-! ### The blocks of debug identifiers (R97) -/

theorem map_indexFrom_eq_some {base size sel : Nat} {f : Fin size → Instr} {i : Instr} :
    (indexFrom base size sel).map f = some i ↔ ∃ n : Fin size, sel = base + n.val ∧ f n = i := by
  simp only [Option.map_eq_some_iff, indexFrom_eq_some]

/-! ### What encoding keeps of a decoded request (R90, R94, R98) -/

/-- `q` is `r` with the buses an operation ignores set to 0: none, A[31:0], A, or the triple kept. -/
inductive Trims (r : Request) : Request → Prop where
  | bare : Trims r ⟨r.cmd, 0, 0, 0⟩
  | word : Trims r ⟨r.cmd, zext64 (loWord r.a), 0, 0⟩
  | dword : Trims r ⟨r.cmd, r.a, 0, 0⟩
  | triple : Trims r ⟨r.cmd, zext64 (loWord r.a), r.b, r.c⟩

section Trims

variable {r : Request} {op sel : Nat} (ho : r.op = op) (hs : r.sel = sel)

include ho hs

theorem cmdOf_eq_cmd : cmdOf op sel = r.cmd := by
  rw [← ho, ← hs, cmdOf_op_sel]

theorem trims_bare : Trims r (bare op sel) := by
  rw [Sys2Proof.bare, cmdOf_eq_cmd ho hs]
  exact .bare

theorem trims_withWord : Trims r (withWord op sel (loWord r.a)) := by
  rw [withWord, cmdOf_eq_cmd ho hs]
  exact .word

theorem trims_withDWord : Trims r (withDWord op sel r.a) := by
  rw [withDWord, cmdOf_eq_cmd ho hs]
  exact .dword

omit hs in
theorem trims_withTriple (hs : r.sel = 0) : Trims r (withTriple op (loWord r.a) r.b r.c) := by
  rw [withTriple, cmdOf_eq_cmd ho hs]
  exact .triple

end Trims

/-! The indices of formats N4, N3 and Z: what was read, and its encoding. -/

section Formats

variable {r : Request} {i : Instr}

theorem trims_of_indexN4 {f : Fin 16 → Instr} (h : (indexN4 r.sel).map f = some i)
    (hf : ∀ n : Fin 16, r.sel = n.val → Trims r (encode (f n))) : Trims r (encode i) := by
  obtain ⟨n, hn, rfl⟩ := Option.map_eq_some_iff.1 h
  exact hf n (indexN4_eq_some.1 hn)

theorem trims_of_indexN3 {f : Fin 8 → Instr} (h : (indexN3 r.sel).map f = some i)
    (hf : ∀ n : Fin 8, r.sel = n.val → Trims r (encode (f n))) : Trims r (encode i) := by
  obtain ⟨n, hn, rfl⟩ := Option.map_eq_some_iff.1 h
  exact hf n (indexN3_eq_some.1 hn)

theorem trims_of_noSelector {j : Instr} (h : noSelector r.sel j = some i)
    (hj : r.sel = 0 → Trims r (encode j)) : Trims r (encode i) := by
  obtain ⟨hs, rfl⟩ := noSelector_eq_some.1 h
  exact hj hs

end Formats

/-- The encoding of GET.x by identifier. -/
theorem encode_of_decodeGet {sel : Nat} {i : Instr} (h : decodeGet sel = some i) : encode i = bare 0x14 sel := by
  unfold decodeGet at h
  split at h <;> cases h <;> rfl

theorem encode_of_decodeSet {sel : Nat} {v : Word} {i : Instr} (h : decodeSet sel v = some i) :
    encode i = withWord 0x15 sel v := by
  unfold decodeSet at h
  split at h <;> cases h <;> rfl

theorem encode_of_decodePeek {sel : Nat} {i : Instr} (h : decodePeek sel = some i) : encode i = bare 0x18 sel := by
  simp only [decodePeek, Option.orElse_eq_some, map_indexFrom_eq_some] at h
  obtain ⟨n, rfl, rfl⟩ | ⟨-, ⟨n, rfl, rfl⟩ | ⟨-, ⟨n, rfl, rfl⟩ | ⟨-, ⟨n, rfl, rfl⟩ | ⟨-, ⟨n, rfl, rfl⟩ | ⟨-, h |
    ⟨-, ⟨n, rfl, rfl⟩ | ⟨-, n, rfl, rfl⟩⟩⟩⟩⟩⟩⟩ := h
  case inr.inr.inr.inr.inr.inl =>
    obtain ⟨rfl, rfl⟩ : sel = 0x2E ∧ Instr.dbgPeekExpevt = i := by simpa using h
    rfl
  case inl => rw [Nat.zero_add]; rfl
  all_goals rfl

theorem encode_of_decodePoke {sel : Nat} {v : Word} {i : Instr} (h : decodePoke sel v = some i) :
    encode i = withWord 0x19 sel v := by
  simp only [decodePoke, Option.orElse_eq_some, map_indexFrom_eq_some] at h
  obtain ⟨n, rfl, rfl⟩ | ⟨-, ⟨n, rfl, rfl⟩ | ⟨-, ⟨n, rfl, rfl⟩ | ⟨-, ⟨n, rfl, rfl⟩ | ⟨-, ⟨n, rfl, rfl⟩ |
    ⟨-, n, rfl, rfl⟩⟩⟩⟩⟩ := h
  case inl => rw [Nat.zero_add]; rfl
  all_goals rfl

/-- The encoding of what a request decodes to is that request, trimmed: each row of `decode` with its shape of buses. -/
theorem trims_encode_of_decode {r : Request} {i : Instr} (h : decode r = some i) : Trims r (encode i) := by
  unfold decode at h
  split at h <;> rename_i ho
  · exact trims_of_indexN4 h fun _ hs => trims_bare ho hs
  · exact trims_of_indexN4 h fun _ hs => trims_withWord ho hs
  · exact trims_of_indexN3 h fun _ hs => trims_bare ho hs
  · exact trims_of_indexN3 h fun _ hs => trims_withWord ho hs
  · exact encode_of_decodeGet h ▸ trims_bare ho rfl
  · exact encode_of_decodeSet h ▸ trims_withWord ho rfl
  · exact trims_of_noSelector h fun hs => trims_bare ho hs
  · exact trims_of_noSelector h fun hs => trims_withDWord ho hs
  · exact encode_of_decodePeek h ▸ trims_bare ho rfl
  · exact encode_of_decodePoke h ▸ trims_withWord ho rfl
  · exact trims_of_indexN4 h fun _ hs => trims_bare ho hs
  · exact trims_of_indexN4 h fun _ hs => trims_withWord ho hs
  · exact trims_of_indexN4 h fun _ hs => trims_bare ho hs
  · exact trims_of_indexN4 h fun _ hs => trims_withWord ho hs
  · exact trims_of_indexN3 h fun _ hs => trims_bare ho hs
  · exact trims_of_indexN3 h fun _ hs => trims_withDWord ho hs
  · exact trims_of_indexN3 h fun _ hs => trims_bare ho hs
  · exact trims_of_indexN3 h fun _ hs => trims_withDWord ho hs
  · exact trims_of_noSelector h fun hs => trims_withWord ho hs
  · exact trims_of_noSelector h fun hs => trims_withDWord ho hs
  · exact trims_of_noSelector h fun hs => trims_bare ho hs
  · exact trims_of_noSelector h fun hs => trims_bare ho hs
  · exact trims_of_noSelector h fun hs => trims_bare ho hs
  · exact trims_of_noSelector h fun hs => trims_withTriple ho hs
  · exact trims_of_noSelector h fun hs => trims_bare ho hs
  · exact trims_of_noSelector h fun hs => trims_withTriple ho hs
  · cases h

theorem Trims.cmd_eq {r q : Request} (h : Trims r q) : q.cmd = r.cmd := by
  cases h <;> rfl

/-- Settles O5: the encoding is the request trimmed, and it decodes to the same operation. -/
theorem encodeOfDecodeKeepsTheRequest : Obligations.EncodeOfDecodeKeepsTheRequest := by
  intro r i h
  have ht := trims_encode_of_decode h
  refine ⟨ht.cmd_eq, ?_, ?_, ?_, decode_encode i⟩ <;> generalize encode i = q at ht <;> cases ht
  case refine_1.bare => exact .inr (.inr rfl)
  case refine_1.word | refine_1.triple => exact .inr (.inl rfl)
  case refine_1.dword => exact .inl rfl
  case refine_2.triple | refine_3.triple => exact .inl rfl
  all_goals exact .inr rfl

/-! ### The opcode table (R99) -/

/-- The statement of Laws/PerInstr.lean holds of every operation. -/
theorem encodesItsRow (i : Instr) : Laws.EncodesItsRow.Statement i := by
  open Laws.EncodesItsRow in
  cases i with
  | getr n => exact getr n
  | setr n v => exact setr n v
  | getrb n => exact getrb n
  | setrb n v => exact setrb n v
  | getSr => exact getSr
  | getSsr => exact getSsr
  | getSpc => exact getSpc
  | getSgr => exact getSgr
  | getDbr => exact getDbr
  | getVbr => exact getVbr
  | getPr => exact getPr
  | getFpul => exact getFpul
  | getPc => exact getPc
  | getFpscr => exact getFpscr
  | getMach => exact getMach
  | getMacl => exact getMacl
  | getExpevt => exact getExpevt
  | setSr v => exact setSr v
  | setSsr v => exact setSsr v
  | setSpc v => exact setSpc v
  | setSgr v => exact setSgr v
  | setDbr v => exact setDbr v
  | setVbr v => exact setVbr v
  | setPr v => exact setPr v
  | setFpul v => exact setFpul v
  | setPc v => exact setPc v
  | setFpscr v => exact setFpscr v
  | setMach v => exact setMach v
  | setMacl v => exact setMacl v
  | getmac => exact getmac
  | setmac v => exact setmac v
  | dbgPeekR n => exact dbgPeekR n
  | dbgPeekRBank n => exact dbgPeekRBank n
  | dbgPeekScalarLo id => exact dbgPeekScalarLo id
  | dbgPeekScalarHi id => exact dbgPeekScalarHi id
  | dbgPeekShadow id => exact dbgPeekShadow id
  | dbgPeekExpevt => exact dbgPeekExpevt
  | dbgPeekFr n => exact dbgPeekFr n
  | dbgPeekXf n => exact dbgPeekXf n
  | dbgPokeR n v => exact dbgPokeR n v
  | dbgPokeRBank n v => exact dbgPokeRBank n v
  | dbgPokeScalarLo id v => exact dbgPokeScalarLo id v
  | dbgPokeScalarHi id v => exact dbgPokeScalarHi id v
  | dbgPokeFr n v => exact dbgPokeFr n v
  | dbgPokeXf n v => exact dbgPokeXf n v
  | getfr n => exact getfr n
  | setfr n v => exact setfr n v
  | getxf n => exact getxf n
  | setxf n v => exact setxf n v
  | getdr n => exact getdr n
  | setdr n v => exact setdr n v
  | getxd n => exact getxd n
  | setxd n v => exact setxd n v
  | fixnan v => exact fixnan v
  | fixnan64 v => exact fixnan64 v
  | updsr => exact updsr
  | updfpscr => exact updfpscr
  | setfsr => exact setfsr
  | doexc pc evt vec => exact doexc pc evt vec
  | raisefpudis => exact raisefpudis
  | adjslot epc evt vec => exact adjslot epc evt vec

theorem rowOf_mem_opcodeTable (i : Instr) : rowOf i ∈ opcodeTable := by
  apply List.contains_iff_mem.1
  cases i <;> rfl

/-- Every command word that hits the row decodes to an operation of that row. -/
def Decodes (row : Row) : Prop :=
  ∀ r : Request, row.hits r.cmd = true → ∃ i, decode r = some i ∧ rowOf i = row

/-- A word is its part under a mask plus its part outside it. -/
theorem and_add_and_not (x mask : CmdWord) : (x &&& mask) + (x &&& ~~~mask) = x := by
  rw [BitVec.add_eq_or_of_and_eq_zero] <;> ext i <;> cases h : mask[i] <;> simp [h]

/-- A word under a mask of all but the low `k` bits is the pattern plus an index below `2 ^ k`. -/
theorem exists_index_of_and_eq {cmd mask pattern : CmdWord} {k : Nat} (hmask : ~~~mask = BitVec.ofNat 16 (2 ^ k - 1))
    (h : cmd &&& mask = pattern) : ∃ n : Fin (2 ^ k), cmd = pattern + BitVec.ofNat 16 n.val := by
  have hlow : cmd &&& ~~~mask = BitVec.ofNat 16 (cmd.toNat % 2 ^ k) := by
    rw [hmask, ← Nat.and_two_pow_sub_one_eq_mod, BitVec.ofNat_and, BitVec.ofNat_toNat, BitVec.setWidth_eq]
  refine ⟨⟨cmd.toNat % 2 ^ k, Nat.mod_lt _ (Nat.two_pow_pos k)⟩, ?_⟩
  rw [← h, ← hlow, and_add_and_not]

theorem decodes_of_selects_index {name : String} {p k : Nat} {mask : CmdWord}
    (hmask : ~~~mask = BitVec.ofNat 16 (2 ^ k - 1)) {f : Fin (2 ^ k) → DWord → Word → Word → Instr}
    (hsel : ∀ n, Selects (p + n.val) (f n)) (hrow : ∀ n a b c, rowOf (f n a b c) = ⟨name, BitVec.ofNat 16 p, mask⟩) :
    Decodes ⟨name, BitVec.ofNat 16 p, mask⟩ := by
  rintro ⟨cmd, a, b, c⟩ hit
  obtain ⟨n, rfl⟩ := exists_index_of_and_eq hmask (beq_iff_eq.1 hit)
  exact ⟨_, BitVec.ofNat_add .. ▸ hsel n a b c, hrow n a b c⟩

theorem decodes_of_selects {name : String} {p : Nat} {f : DWord → Word → Word → Instr}
    (hsel : Selects p f) (hrow : ∀ a b c, rowOf (f a b c) = ⟨name, BitVec.ofNat 16 p, 0xFFFF⟩) :
    Decodes ⟨name, BitVec.ofNat 16 p, 0xFFFF⟩ :=
  decodes_of_selects_index (k := 0) rfl (f := fun _ => f) (fun n => by simpa using hsel) fun _ => hrow

theorem decodes_rowsGeneral : ∀ row ∈ rowsGeneral, Decodes row := by
  simp only [rowsGeneral, List.forall_mem_cons]
  exact ⟨decodes_of_selects_index (k := 4) rfl selects_getr fun _ _ _ _ => rfl,
    decodes_of_selects_index (k := 4) rfl selects_setr fun _ _ _ _ => rfl,
    decodes_of_selects_index (k := 3) rfl selects_getrb fun _ _ _ _ => rfl,
    decodes_of_selects_index (k := 3) rfl selects_setrb fun _ _ _ _ => rfl, nofun⟩

theorem decodes_rowsGet : ∀ row ∈ rowsGet, Decodes row := by
  simp only [rowsGet, List.forall_mem_cons]
  exact ⟨decodes_of_selects (selects_getInstr .sr) fun _ _ _ => rfl,
    decodes_of_selects (selects_getInstr .ssr) fun _ _ _ => rfl,
    decodes_of_selects (selects_getInstr .spc) fun _ _ _ => rfl,
    decodes_of_selects (selects_getInstr .sgr) fun _ _ _ => rfl,
    decodes_of_selects (selects_getInstr .dbr) fun _ _ _ => rfl,
    decodes_of_selects (selects_getInstr .vbr) fun _ _ _ => rfl,
    decodes_of_selects (selects_getInstr .pr) fun _ _ _ => rfl,
    decodes_of_selects (selects_getInstr .fpul) fun _ _ _ => rfl,
    decodes_of_selects (selects_getInstr .pc) fun _ _ _ => rfl,
    decodes_of_selects (selects_getInstr .fpscr) fun _ _ _ => rfl,
    decodes_of_selects (selects_getInstr .mach) fun _ _ _ => rfl,
    decodes_of_selects (selects_getInstr .macl) fun _ _ _ => rfl,
    decodes_of_selects selects_getExpevt fun _ _ _ => rfl, nofun⟩

theorem decodes_rowsSet : ∀ row ∈ rowsSet, Decodes row := by
  simp only [rowsSet, List.forall_mem_cons]
  exact ⟨decodes_of_selects (selects_setInstr .sr) fun _ _ _ => rfl,
    decodes_of_selects (selects_setInstr .ssr) fun _ _ _ => rfl,
    decodes_of_selects (selects_setInstr .spc) fun _ _ _ => rfl,
    decodes_of_selects (selects_setInstr .sgr) fun _ _ _ => rfl,
    decodes_of_selects (selects_setInstr .dbr) fun _ _ _ => rfl,
    decodes_of_selects (selects_setInstr .vbr) fun _ _ _ => rfl,
    decodes_of_selects (selects_setInstr .pr) fun _ _ _ => rfl,
    decodes_of_selects (selects_setInstr .fpul) fun _ _ _ => rfl,
    decodes_of_selects (selects_setInstr .pc) fun _ _ _ => rfl,
    decodes_of_selects (selects_setInstr .fpscr) fun _ _ _ => rfl,
    decodes_of_selects (selects_setInstr .mach) fun _ _ _ => rfl,
    decodes_of_selects (selects_setInstr .macl) fun _ _ _ => rfl, nofun⟩

theorem decodes_rowsMacDebug : ∀ row ∈ rowsMacDebug, Decodes row := by
  simp only [rowsMacDebug, List.forall_mem_cons]
  exact ⟨decodes_of_selects selects_getmac fun _ _ _ => rfl,
    decodes_of_selects selects_setmac fun _ _ _ => rfl,
    decodes_of_selects_index (k := 4) rfl DebugBlock.r.selects_peek fun _ _ _ _ => rfl,
    decodes_of_selects_index (k := 3) rfl DebugBlock.rBank.selects_peek fun _ _ _ _ => rfl,
    decodes_of_selects_index (k := 3) rfl DebugBlock.scalarLo.selects_peek fun _ _ _ _ => rfl,
    decodes_of_selects_index (k := 2) rfl DebugBlock.scalarHi.selects_peek fun _ _ _ _ => rfl,
    decodes_of_selects_index (k := 1) rfl selects_dbgPeekShadow fun _ _ _ _ => rfl,
    decodes_of_selects selects_dbgPeekExpevt fun _ _ _ => rfl,
    decodes_of_selects_index (k := 4) rfl DebugBlock.fr.selects_peek fun _ _ _ _ => rfl,
    decodes_of_selects_index (k := 4) rfl DebugBlock.xf.selects_peek fun _ _ _ _ => rfl,
    decodes_of_selects_index (k := 4) rfl DebugBlock.r.selects_poke fun _ _ _ _ => rfl,
    decodes_of_selects_index (k := 3) rfl DebugBlock.rBank.selects_poke fun _ _ _ _ => rfl,
    decodes_of_selects_index (k := 3) rfl DebugBlock.scalarLo.selects_poke fun _ _ _ _ => rfl,
    decodes_of_selects_index (k := 2) rfl DebugBlock.scalarHi.selects_poke fun _ _ _ _ => rfl,
    decodes_of_selects_index (k := 4) rfl DebugBlock.fr.selects_poke fun _ _ _ _ => rfl,
    decodes_of_selects_index (k := 4) rfl DebugBlock.xf.selects_poke fun _ _ _ _ => rfl, nofun⟩

theorem decodes_rowsFp : ∀ row ∈ rowsFp, Decodes row := by
  simp only [rowsFp, List.forall_mem_cons]
  exact ⟨decodes_of_selects_index (k := 4) rfl selects_getfr fun _ _ _ _ => rfl,
    decodes_of_selects_index (k := 4) rfl selects_setfr fun _ _ _ _ => rfl,
    decodes_of_selects_index (k := 4) rfl selects_getxf fun _ _ _ _ => rfl,
    decodes_of_selects_index (k := 4) rfl selects_setxf fun _ _ _ _ => rfl,
    decodes_of_selects_index (k := 3) rfl selects_getdr fun _ _ _ _ => rfl,
    decodes_of_selects_index (k := 3) rfl selects_setdr fun _ _ _ _ => rfl,
    decodes_of_selects_index (k := 3) rfl selects_getxd fun _ _ _ _ => rfl,
    decodes_of_selects_index (k := 3) rfl selects_setxd fun _ _ _ _ => rfl,
    decodes_of_selects selects_fixnan fun _ _ _ => rfl,
    decodes_of_selects selects_fixnan64 fun _ _ _ => rfl, nofun⟩

theorem decodes_rowsControl : ∀ row ∈ rowsControl, Decodes row := by
  simp only [rowsControl, List.forall_mem_cons]
  exact ⟨decodes_of_selects selects_updsr fun _ _ _ => rfl,
    decodes_of_selects selects_updfpscr fun _ _ _ => rfl,
    decodes_of_selects selects_setfsr fun _ _ _ => rfl,
    decodes_of_selects selects_doexc fun _ _ _ => rfl,
    decodes_of_selects selects_raisefpudis fun _ _ _ => rfl,
    decodes_of_selects selects_adjslot fun _ _ _ => rfl, nofun⟩

theorem decodes_opcodeTable : ∀ row ∈ opcodeTable, Decodes row := by
  simp only [opcodeTable, List.forall_mem_append]
  exact ⟨⟨⟨⟨⟨decodes_rowsGeneral, decodes_rowsGet⟩, decodes_rowsSet⟩, decodes_rowsMacDebug⟩, decodes_rowsFp⟩,
    decodes_rowsControl⟩

/-- Settles O2: an operation's encoding hits its own row and has the request's command word; and the words of each row
select operations of that row. -/
theorem decodingFollowsTheOpcodeTable : Obligations.DecodingFollowsTheOpcodeTable := by
  refine fun r => ⟨fun i h => ⟨rowOf_mem_opcodeTable i, ?_⟩, fun row hrow => decodes_opcodeTable row hrow r⟩
  rw [← (trims_encode_of_decode h).cmd_eq]
  exact encodesItsRow i

/-- Settles O1: words written out. -/
theorem wordsOfTheTableDecodeAsWritten : Obligations.WordsOfTheTableDecodeAsWritten := by
  unfold Obligations.WordsOfTheTableDecodeAsWritten
  decide

end Sys2Proof.Machine

/-! ## What every step keeps (R32, R43, R53, R57, R58, R254) -/

namespace Sys2Proof.Machine

open Sys2Proof.Safety

/-! An answer is the only part of `ok` and `okQ` that changes the state. -/

@[simp] theorem State.ok_eq_answer (s : State) : s.ok = s.answer .okEmpty := rfl

@[simp] theorem State.okQ_eq_answer (s : State) (q : DWord) : s.okQ q = s.answer (.okQ q) := rfl

/-- What taking an input does not touch, every operation, the stop on a reserved word and reset keep, every step
keeps. -/
theorem step_keeps {P : State → Prop} (hdrop : ∀ {s : State} (rest : List Input), P s → P (s.dropInput rest))
    (heffect : ∀ {i : Instr} {s t : State}, Effect i s t → P s → P t)
    (hillegal : ∀ {s : State}, s.fatal = false → P s → P (s.stop .illegalCmd))
    (hreset : ∀ {s : State} (m : Bool), P s → P (s.applyReset m))
    {s t : State} (h : step s = .next t) (hs : P s) : P t := by
  obtain ⟨_, rfl⟩ | ⟨r, rest, i, _, _, he⟩ | ⟨r, rest, _, _, ⟨hf, rfl⟩ | ⟨hf, rfl⟩⟩ | ⟨m, rest, _, rfl⟩ :=
    step_cases h
  · exact hs
  · exact heffect he (hdrop rest hs)
  · exact heffect (.stopped (i := .updsr) hf) (hdrop rest hs)
  · exact hillegal hf (hdrop rest hs)
  · exact hreset m (hdrop rest hs)

/-! ### The derived state (R53) -/

/-- Only the updaters and a delivery write the shadows or the derived state, and each writes both. -/
theorem Effect.derived {i : Instr} {s t : State} (he : Effect i s t) (h : Derived s) : Derived t := by
  obtain ⟨hbank, hmode, hfpBank, hfpMode, hexc⟩ := h
  cases he with
  | updsr => exact ⟨rfl, rfl, hfpBank, hfpMode, hexc⟩
  | updfpscr => exact ⟨hbank, hmode, rfl, rfl, hexc⟩
  | delivered => exact ⟨rfl, rfl, hfpBank, hfpMode, rfl⟩
  | _ => constructor <;> simpa

/-- Settles O57: the operations keep it, and reset writes shadows and derived state together. -/
theorem everyStepKeepsTheDerivedState : Obligations.EveryStepKeepsTheDerivedState :=
  fun _ _ hs h => step_keeps (P := Derived) (fun _ hs => ⟨hs.gprBank, hs.srMode, hs.fpBank, hs.fpMode, hs.excState⟩)
    Effect.derived (fun _ hs => ⟨hs.gprBank, hs.srMode, hs.fpBank, hs.fpMode, hs.excState⟩)
    (fun _ _ => ⟨rfl, rfl, rfl, rfl, rfl⟩) h hs

/-! ### The reserved bits (R32, R43) -/

theorem Effect.params_eq {i : Instr} {s t : State} (he : Effect i s t) : t.params = s.params := by
  cases he <;> simp

theorem reservedClear_writeScalar {s : State} (h : ReservedClear s) (x : ScalarReg) (v : Word) :
    ReservedClear (s.writeScalar x v) := by
  obtain ⟨hsr, holdSr, hfpscr, holdFpscr⟩ := h
  cases x with
  | sr => exact ⟨maskSr_maskSr _ _, holdSr, hfpscr, holdFpscr⟩
  | fpscr => exact ⟨hsr, holdSr, maskFpscr_maskFpscr _ _, holdFpscr⟩
  | _ => exact ⟨hsr, holdSr, hfpscr, holdFpscr⟩

/-- Every write of SR and FPSCR goes through its mask, and the shadows take what those registers hold. -/
theorem Effect.reservedClear {i : Instr} {s t : State} (he : Effect i s t) (h : ReservedClear s) :
    ReservedClear t := by
  have ⟨hsr, holdSr, hfpscr, holdFpscr⟩ := h
  cases he with
  | writeScalar x v =>
    have hw := reservedClear_writeScalar h x v
    exact ⟨hw.sr, hw.oldSr, hw.fpscr, hw.oldFpscr⟩
  | updsr => exact ⟨hsr, hsr, hfpscr, holdFpscr⟩
  | updfpscr => exact ⟨hsr, holdSr, hfpscr, hfpscr⟩
  | delivered => exact ⟨maskSr_entrySr _ _, maskSr_entrySr _ _, hfpscr, holdFpscr⟩
  | _ => constructor <;> simpa

/-- Settles O58: the operations mask what they write, and the reset constants are coherent with the masks. -/
theorem everyStepKeepsReservedBitsClear : Obligations.EveryStepKeepsReservedBitsClear :=
  fun _ _ hc hs h => step_keeps (P := fun s => Coherent s.params ∧ ReservedClear s)
    (fun _ ⟨hc, hr⟩ => ⟨hc, hr.sr, hr.oldSr, hr.fpscr, hr.oldFpscr⟩)
    (fun he ⟨hc, hr⟩ => ⟨he.params_eq ▸ hc, he.reservedClear hr⟩)
    (fun _ ⟨hc, hr⟩ => ⟨hc, hr.sr, hr.oldSr, hr.fpscr, hr.oldFpscr⟩)
    (fun _ ⟨⟨hsr, hfpscr⟩, _⟩ => ⟨⟨hsr, hfpscr⟩, hsr, hsr, hfpscr, hfpscr⟩) h ⟨hc, hs⟩

/-! ### The host latch and the stop reason (R57, R58) -/

theorem outputs_stop {s : State} (h : Outputs s) {x : FatalReason} (hx : x ≠ .none) : Outputs (s.stop x) :=
  ⟨h.hostFpctl, by simp [hx]⟩

/-- SETFSR writes the latch only where it exists, and only a stop, which gives a reason, sets `fatal`. -/
theorem Effect.outputs {i : Instr} {s t : State} (he : Effect i s t) (h : Outputs s) : Outputs t := by
  cases he with
  | setfsr =>
    refine ⟨?_, by simpa using h.fatalReason⟩
    cases hp : s.params.hostFpuCtl <;> simp [hp, h.hostFpctl]
  | nested => exact outputs_stop h (by decide)
  | mmuConfig => exact outputs_stop h (by decide)
  | _ => exact ⟨by simpa using h.hostFpctl, by simpa using h.fatalReason⟩

theorem outputs_afterReset (p : Params) (m : Bool) (draw : Nat) : Outputs (State.afterReset p m draw) := by
  refine ⟨?_, by simp [State.afterReset]⟩
  cases hp : p.hostFpuCtl <;> simp [State.afterReset, hp]

theorem outputs_applyReset (s : State) (m : Bool) : Outputs (s.applyReset m) :=
  have h := outputs_afterReset s.params m s.draws
  ⟨h.hostFpctl, h.fatalReason⟩

/-- Settles O59: the operations keep it, every stop has a reason, and reset clears both. -/
theorem everyStepKeepsTheOutputsLegal : Obligations.EveryStepKeepsTheOutputsLegal :=
  fun _ _ hs h => step_keeps (P := Outputs) (fun _ hs => ⟨hs.hostFpctl, hs.fatalReason⟩) Effect.outputs
    (fun _ hs => outputs_stop hs (by decide)) (fun m _ => outputs_applyReset _ m) h hs

end Sys2Proof.Machine

/-! ## The step, its answers and its stop (R58, R59, R91, R99, R103, R104, R120) -/

namespace Sys2Proof.Machine

open Sys2Proof.Safety

/-! ### What a request is answered -/

/-- The check for a stopped block is part of every meaning (R120). -/
theorem exists_exec_eq_complete (i : Instr) : ∃ op, ∀ s, exec i s = complete s op := by
  cases i <;> exact ⟨_, fun _ => rfl⟩

/-- Every operation but DOEXC and RAISEFPUDIS answers OK, once the block is found running (R91, R160). -/
theorem exists_exec_eq_complete_ok {i : Instr} (hd : ∀ pc evt vec, i ≠ .doexc pc evt vec) (hr : i ≠ .raisefpudis) :
    ∃ op, ∀ s, exec i s = complete s op ∧ (op s).response.map (·.status) = some .ok := by
  cases i with
  | doexc pc evt vec => exact absurd rfl (hd pc evt vec)
  | raisefpudis => exact absurd rfl hr
  | _ => exact ⟨_, fun _ => ⟨rfl, rfl⟩⟩

theorem exec_stopped {s : State} (hf : s.fatal = true) (i : Instr) : exec i s = .next (s.answer .stopped) := by
  obtain ⟨op, hop⟩ := exists_exec_eq_complete i
  rw [hop, complete_stopped hf]

section Running

variable {s : State} (hf : s.fatal = false)

include hf

/-- DOEXC: refused, nested or delivered, in this order (R196). -/
theorem exec_doexc_eq_ite (pc evt vec : Word) :
    exec (.doexc pc evt vec) s = .next
      (if s.refusesDelivery evt then s.answer .failed else if s.isNested evt then s.stop .nested
        else (s.takeException pc evt vec).answer .okEmpty) := by
  rw [exec]
  exact complete_running hf _

/-- RAISEFPUDIS: the triple, or the stop without MMU support (R199, R200). -/
theorem exec_raisefpudis_eq_ite :
    exec .raisefpudis s = .next
      (if s.fullMMU then s.answer (.thrownTriple (s.pc - s.params.ilen) 0x800 0x100) else s.stop .mmuConfig) := by
  rw [exec]
  exact complete_running hf _

theorem statusOf_exec_ok {i : Instr} (hd : ∀ pc evt vec, i ≠ .doexc pc evt vec) (hr : i ≠ .raisefpudis) :
    statusOf (exec i s) = some .ok := by
  obtain ⟨op, hop⟩ := exists_exec_eq_complete_ok hd hr
  rw [(hop s).1, complete_running hf]
  exact (hop s).2

theorem statusOf_exec_doexc (pc evt vec : Word) :
    statusOf (exec (.doexc pc evt vec) s) = some
      (if s.refusesDelivery evt then .fail else if s.isNested evt then .fatal else .ok) := by
  rw [exec_doexc_eq_ite hf]
  split
  · rfl
  · split <;> rfl

theorem statusOf_exec_raisefpudis :
    statusOf (exec .raisefpudis s) = some (if s.fullMMU then .thrown else .fatal) := by
  rw [exec_raisefpudis_eq_ite hf]
  split <;> rfl

end Running

/-- Settles O49: DOEXC and RAISEFPUDIS by their branches, and OK for every other operation. -/
theorem statusesBelongToTheirOperations : Obligations.StatusesBelongToTheirOperations := by
  intro s i hf
  by_cases hr : i = .raisefpudis
  · subst hr
    rw [statusOf_exec_raisefpudis hf]
    cases s.fullMMU <;> simp
  by_cases hd : ∃ pc evt vec, i = .doexc pc evt vec
  · obtain ⟨pc, evt, vec, rfl⟩ := hd
    rw [statusOf_exec_doexc hf]
    cases s.refusesDelivery evt <;> cases s.isNested evt <;> simp
  · rw [statusOf_exec_ok hf (fun pc evt vec h => hd ⟨pc, evt, vec, h⟩) hr]
    simp

theorem exists_exec_eq_next (i : Instr) (s : State) : ∃ t, exec i s = .next t := by
  obtain ⟨op, hop⟩ := exists_exec_eq_complete i
  exact ⟨_, hop s⟩

/-- What an operation leaves holds a response, whatever the effect (R91). -/
theorem Effect.response_isSome {i : Instr} {s t : State} (he : Effect i s t) : t.response.isSome = true := by
  cases he <;> rfl

theorem exists_step_eq_next (s : State) : ∃ t, step s = .next t := by
  unfold step
  split
  · exact ⟨_, rfl⟩
  · rename_i x rest _
    cases x with
    | reset m => exact ⟨_, rfl⟩
    | request r =>
      simp only [takeInput, serve]
      split
      · exact exists_exec_eq_next _ _
      · exact ⟨_, rfl⟩

/-- Settles O7: every meaning is the common check, whose two branches answer. -/
theorem everyRequestIsAnswered : Obligations.EveryRequestIsAnswered := by
  refine ⟨fun i s => ?_, exists_step_eq_next⟩
  obtain ⟨t, ht⟩ := exists_exec_eq_next i s
  exact ⟨t, ht, (exec_cases ht).response_isSome⟩

/-! ### The step that takes a request -/

theorem step_request {s : State} {r : Request} {rest : List Input} (h : s.inputs = .request r :: rest) :
    step s = serve r (s.dropInput rest) := by
  simp [step, h, takeInput]

theorem serve_of_decode_eq_some {r : Request} {i : Instr} (h : decode r = some i) (s : State) :
    serve r s = exec i s := by
  simp [serve, h]

theorem serve_of_decode_eq_none {r : Request} (h : decode r = none) (s : State) : serve r s = illegalCommand s := by
  simp [serve, h]

theorem serve_stopped {s : State} (hf : s.fatal = true) (r : Request) : serve r s = .next (s.answer .stopped) := by
  cases hd : decode r with
  | some i => rw [serve_of_decode_eq_some hd, exec_stopped hf]
  | none => rw [serve_of_decode_eq_none hd, illegalCommand_stopped hf]

/-- Settles O6: the request is served from the inputs it was taken from, or placed on. -/
theorem stepRunsTheDecodedOperation : Obligations.StepRunsTheDecodedOperation := by
  refine ⟨fun s r rest i hin hd => ?_, fun s nbits w i hd => ?_, fun s hin => ?_⟩
  · rw [step_request hin, serve_of_decode_eq_some hd]
    rfl
  · have hin : (s.withFetchWord nbits w).inputs = .request (Request.ofBits (w % 2 ^ nbits)) :: s.inputs := rfl
    rw [step_request hin, serve_of_decode_eq_some hd]
    rfl
  · simp [step, hin, State.idle]

/-- Settles O8: both ways of serving a request begin with the check for a stopped block. -/
theorem stoppedBlockAnswersFatal : Obligations.StoppedBlockAnswersFatal := by
  refine fun s hf => ⟨exec_stopped hf, fun r rest hin => ?_⟩
  rw [step_request hin]
  exact serve_stopped (s := s.dropInput rest) hf r

theorem decode_eq_none_of_wf_eq_false {r : Request} (h : r.wf = false) : decode r = none :=
  Option.not_isSome_iff_eq_none.1 (by simp [reservedWordsAreThoseOfTheFormats r, h])

/-- Settles O9: a reserved word decodes to nothing, and the running block stops. -/
theorem reservedWordStopsTheBlock : Obligations.ReservedWordStopsTheBlock := by
  intro s r rest hin hf hwf
  rw [step_request hin, serve_of_decode_eq_none (decode_eq_none_of_wf_eq_false hwf)]
  exact illegalCommand_running (s := s.dropInput rest) hf

/-- `t` is `s` newly stopped with one report of the reason, or the stop and the reports are as they were. -/
def ReportsStopOnce (s t : State) : Prop :=
  (s.fatal = false ∧ t.fatal = true ∧ t.fatalReason ≠ .none ∧
    t.hostErrors = s.hostErrors ++ [⟨.error, t.fatalReason⟩]) ∨
  (t.fatal = s.fatal ∧ t.fatalReason = s.fatalReason ∧ t.hostErrors = s.hostErrors)

theorem reportsStopOnce_stop {s : State} (hf : s.fatal = false) {x : FatalReason} (hx : x ≠ .none) :
    ReportsStopOnce s (s.stop x) :=
  .inl ⟨hf, rfl, hx, rfl⟩

/-- Only DOEXC and RAISEFPUDIS stop the block; nothing else writes the stop or the reports. -/
theorem Effect.reportsStopOnce {i : Instr} {s t : State} (he : Effect i s t) : ReportsStopOnce s t := by
  cases he with
  | nested _ _ _ hf => exact reportsStopOnce_stop hf (by decide)
  | mmuConfig hf => exact reportsStopOnce_stop hf (by decide)
  | _ => exact .inr (by simp)

/-- Settles O10: an operation, or the stop on a reserved word. -/
theorem hostErrorIsDrivenOncePerStop : Obligations.HostErrorIsDrivenOncePerStop := by
  intro s t r rest hin h
  obtain ⟨he, _⟩ | ⟨_, rest', i, _, _, he⟩ | ⟨_, rest', _, _, ⟨_, rfl⟩ | ⟨hf, rfl⟩⟩ | ⟨m, rest', he, _⟩ := step_cases h
  · simp [hin] at he
  · exact he.reportsStopOnce
  · exact .inr ⟨rfl, rfl, rfl⟩
  · exact reportsStopOnce_stop (s := s.dropInput rest') hf (by decide)
  · simp [hin] at he

/-! ### Which operation can change PC, the shadows, EXPEVT and the configuration -/

theorem State.handler_eq_ite (s : State) (evt vec : Word) :
    s.handler evt vec = if evt ∈ s.params.resetEvents then s.params.resetVector else s.vbr + vec := by
  simp [State.handler, isResetEvent]

/-- Only a write of the scalar register PC and a delivery write PC, to what each gives (R142, R153, R196). -/
theorem Effect.of_pc_ne {i : Instr} {s t : State} (he : Effect i s t) (hpc : t.pc ≠ s.pc) :
    (∃ v, (i = .setPc v ∨ i = .dbgPokeScalarHi 0 v) ∧ t.pc = v) ∨
    (∃ pc evt vec, i = .doexc pc evt vec ∧ t.pc = s.handler evt vec) := by
  cases he with
  | writeScalar x v _ hi =>
    cases x with
    | pc => exact .inl ⟨v, hi rfl, rfl⟩
    | _ => exact absurd rfl hpc
  | delivered pc evt vec _ hi => exact .inr ⟨pc, evt, vec, hi, rfl⟩
  | _ => simp at hpc

/-- Settles O51: the inversion of a step, with the operations that write PC. -/
theorem onlySetPcDoexcAndResetChangePc : Obligations.OnlySetPcDoexcAndResetChangePc := by
  intro s t h hpc
  obtain ⟨_, rfl⟩ | ⟨r, rest, i, hin, hd, he⟩ | ⟨r, rest, _, _, ht⟩ | ⟨m, rest, hin, rfl⟩ := step_cases h
  · exact absurd rfl hpc
  · refine .inr ⟨r, rest, hin, ?_⟩
    obtain ⟨v, hi, ht⟩ | ⟨pc, evt, vec, rfl, ht⟩ := he.of_pc_ne hpc
    · exact .inl ⟨v, by simpa [hd] using hi, ht⟩
    · exact .inr ⟨pc, evt, vec, hd, ht.trans (State.handler_eq_ite ..)⟩
  · obtain ⟨_, rfl⟩ | ⟨_, rfl⟩ := ht <;> exact absurd rfl hpc
  · exact .inl ⟨m, rest, hin, rfl⟩

theorem Effect.of_oldSr_ne {i : Instr} {s t : State} (he : Effect i s t) (hne : t.oldSr ≠ s.oldSr) :
    (i = .updsr ∧ t.oldSr = s.sr) ∨ ((∃ pc evt vec, i = .doexc pc evt vec) ∧ t.oldSr = t.sr) := by
  cases he with
  | updsr _ hi => exact .inl ⟨hi, rfl⟩
  | delivered pc evt vec _ hi => exact .inr ⟨⟨pc, evt, vec, hi⟩, rfl⟩
  | _ => simp at hne

theorem Effect.of_oldFpscr_ne {i : Instr} {s t : State} (he : Effect i s t) (hne : t.oldFpscr ≠ s.oldFpscr) :
    i = .updfpscr ∧ t.oldFpscr = s.fpscr := by
  cases he with
  | updfpscr _ hi => exact ⟨hi, rfl⟩
  | _ => simp at hne

theorem Effect.of_expevt_ne {i : Instr} {s t : State} (he : Effect i s t) (hne : t.expevt ≠ s.expevt) :
    ∃ pc vec, i = .doexc pc t.expevt vec := by
  cases he with
  | delivered pc evt vec _ hi => exact ⟨pc, vec, hi⟩
  | _ => simp at hne

/-- Settles O52: the effects that write a shadow or EXPEVT. -/
theorem shadowsAndExpevtCannotBeForged : Obligations.ShadowsAndExpevtCannotBeForged :=
  fun _ _ _ h => ⟨(exec_cases h).of_oldSr_ne, (exec_cases h).of_oldFpscr_ne, (exec_cases h).of_expevt_ne⟩

theorem Effect.fullMMU_eq {i : Instr} {s t : State} (he : Effect i s t) : t.fullMMU = s.fullMMU := by
  cases he <;> simp

/-- Settles O53: no effect writes the configuration, and reset writes FullMMU alone. -/
theorem configurationIsConstantBetweenResets : Obligations.ConfigurationIsConstantBetweenResets := by
  intro s t h
  obtain ⟨_, rfl⟩ | ⟨r, rest, i, _, _, he⟩ | ⟨r, rest, _, _, ht⟩ | ⟨m, rest, hin, rfl⟩ := step_cases h
  · exact ⟨rfl, .inr rfl⟩
  · exact ⟨he.params_eq, .inr he.fullMMU_eq⟩
  · obtain ⟨_, rfl⟩ | ⟨_, rfl⟩ := ht <;> exact ⟨rfl, .inr rfl⟩
  · exact ⟨rfl, .inl ⟨m, rest, hin, rfl⟩⟩

end Sys2Proof.Machine

/-! ## Reads and writes in sequence; the debug port and the NaN hooks (R81, R152, R153, R160, R169 to R171) -/

namespace Sys2Proof.Machine

open Sys2Proof.Safety

/-! ### Operations that only read, and operations that only write -/

/-- The operation `i` answers `f` of the state and changes nothing. -/
def ReadsAs (i : Instr) (f : State → DWord) : Prop := ∀ s, exec i s = complete s fun s => s.okQ (f s)

/-- The operation `i` leaves `op` of the state and answers no result. -/
def WritesAs (i : Instr) (op : State → State) : Prop := ∀ s, exec i s = complete s fun s => (op s).ok

section Sequences

variable {i j k : Instr} {f : State → DWord} {op op' : State → State} {s t : State}

theorem ReadsAs.answers (h : ReadsAs i f) (hf : s.fatal = false) : Answers (exec i s) s (f s) :=
  answers_of_exec_okQ hf (h s)

theorem WritesAs.answers (h : WritesAs i op) (hf : s.fatal = false) : Answers (exec i s) (op s) 0 :=
  answers_of_exec_ok hf (h s)

theorem ReadsAs.result (h : ReadsAs i f) (hf : s.fatal = false) : resultOf (exec i s) = some (f s) :=
  resultOf_of_answers (h.answers hf)

theorem WritesAs.left_eq (h : WritesAs i op) (hf : s.fatal = false) (hs : exec i s = .next t) : t = (op s).ok :=
  (complete_inj hf (h s ▸ hs)).symm

/-- In a sequence the rest runs in the state the first operation leaves, its answer as the last response. -/
theorem runAll_cons {is : List Instr} {q : DWord} (h : Answers (exec i s) t q) :
    runAll (i :: is) s = runAll is (t.okQ q) := by
  rw [runAll, show exec i s = _ from h]
  rfl

theorem runAll_singleton (i : Instr) (s : State) : runAll [i] s = exec i s := by
  rw [runAll]
  cases exec i s <;> rfl

/-- A read after a write sees what the write left. -/
theorem ReadsAs.result_after (hj : ReadsAs j f) (hi : WritesAs i op) (hf : s.fatal = false)
    (hop : (op s).fatal = false) : resultOf (runAll [i, j] s) = some (f (op s).ok) := by
  rw [runAll_cons (hi.answers hf), runAll_singleton]
  exact hj.result hop

theorem ReadsAs.result_after_two (hk : ReadsAs k f) (hi : WritesAs i op) (hj : WritesAs j op') (hf : s.fatal = false)
    (hop : (op s).fatal = false) (hop' : (op' (op s).ok).fatal = false) :
    resultOf (runAll [i, j, k] s) = some (f (op' (op s).ok).ok) := by
  rw [runAll_cons (hi.answers hf)]
  exact hk.result_after hj hop hop'

end Sequences

theorem readsAs_getr (n : Fin 16) : ReadsAs (.getr n) fun s => zext64 (s.readR n) := fun _ => rfl

theorem readsAs_getrb (n : Fin 8) : ReadsAs (.getrb n) fun s => zext64 (s.readRBank n) := fun _ => rfl

theorem readsAs_getfr (n : Fin 16) : ReadsAs (.getfr n) fun s => zext64 (s.readFr n) := fun _ => rfl

theorem readsAs_getxf (n : Fin 16) : ReadsAs (.getxf n) fun s => zext64 (s.readXf n) := fun _ => rfl

theorem readsAs_getdr (n : Fin 8) : ReadsAs (.getdr n) fun s => s.readDr n := fun _ => rfl

theorem readsAs_getxd (n : Fin 8) : ReadsAs (.getxd n) fun s => s.readXd n := fun _ => rfl

theorem readsAs_fixnan (v : Word) : ReadsAs (.fixnan v) fun s => zext64 (fixNan32 s.params.fixNan32 v) := fun _ => rfl

theorem readsAs_fixnan64 (v : DWord) : ReadsAs (.fixnan64 v) fun s => fixNan64 s.params.fixNan64 v := fun _ => rfl

theorem readsAs_getInstr (x : ScalarReg) : ReadsAs x.getInstr fun s => zext64 (s.readScalar x) := exec_getInstr x

theorem writesAs_setr (n : Fin 16) (v : Word) : WritesAs (.setr n v) fun s => s.writeR n v := fun _ => rfl

theorem writesAs_setrb (n : Fin 8) (v : Word) : WritesAs (.setrb n v) fun s => s.writeRBank n v := fun _ => rfl

theorem writesAs_setfr (n : Fin 16) (v : Word) : WritesAs (.setfr n v) fun s => s.writeFr n v := fun _ => rfl

theorem writesAs_setxf (n : Fin 16) (v : Word) : WritesAs (.setxf n v) fun s => s.writeXf n v := fun _ => rfl

theorem writesAs_setdr (n : Fin 8) (v : DWord) : WritesAs (.setdr n v) fun s => s.writeDr n v := fun _ => rfl

theorem writesAs_setxd (n : Fin 8) (v : DWord) : WritesAs (.setxd n v) fun s => s.writeXd n v := fun _ => rfl

theorem writesAs_setInstr (x : ScalarReg) (v : Word) : WritesAs (x.setInstr v) fun s => s.writeScalar x v :=
  exec_setInstr x v

/-! ### The statements of the register and floating-point views -/

/-- Settles O14: read after write in the two views. -/
theorem generalRegisterReadsTheLastWrite : Obligations.GeneralRegisterReadsTheLastWrite := by
  refine fun s t n k v hf => ⟨fun h => ?_, fun h => ?_⟩
  · obtain rfl := (writesAs_setr n v).left_eq hf h
    have hf' : (s.writeR n v).ok.fatal = false := by simpa using hf
    refine ⟨fun m => ?_, fun m => ?_⟩
    · rw [(readsAs_getr m).result hf', (readsAs_getr m).result hf, State.ok_eq_answer, State.readR_answer,
        State.readR_writeR]
      split <;> rfl
    · rw [(readsAs_getrb m).result hf', (readsAs_getrb m).result hf, State.ok_eq_answer, State.readRBank_answer,
        State.readRBank_writeR]
  · obtain rfl := (writesAs_setrb k v).left_eq hf h
    have hf' : (s.writeRBank k v).ok.fatal = false := by simpa using hf
    refine ⟨fun m => ?_, fun m => ?_⟩
    · rw [(readsAs_getrb m).result hf', (readsAs_getrb m).result hf, State.ok_eq_answer, State.readRBank_answer,
        State.readRBank_writeRBank]
      split <;> rfl
    · rw [(readsAs_getr m).result hf', (readsAs_getr m).result hf, State.ok_eq_answer, State.readR_answer,
        State.readR_writeRBank]

/-- Settles O28: each law is a read after writes of the same views. -/
theorem doubleViewLaws : Obligations.DoubleViewLaws := by
  intro s n v a b hf
  have dr {j : Instr} {f : State → DWord} (hj : ReadsAs j f) :
      resultOf (runAll [.setdr n v, j] s) = some (f (s.writeDr n v).ok) :=
    hj.result_after (writesAs_setdr n v) hf (by simpa using hf)
  have xd {j : Instr} {f : State → DWord} (hj : ReadsAs j f) :
      resultOf (runAll [.setxd n v, j] s) = some (f (s.writeXd n v).ok) :=
    hj.result_after (writesAs_setxd n v) hf (by simpa using hf)
  refine ⟨⟨?_, ?_⟩, ⟨?_, ?_⟩, ⟨?_, ?_, ?_, ?_⟩, fun m he ho => ⟨?_, ?_⟩, fun m => ⟨?_, ?_⟩⟩
  · simp [dr (readsAs_getdr n), State.readDr_writeDr]
  · simp [xd (readsAs_getxd n), State.readXd_writeXd]
  · rw [(readsAs_getdr n).result_after_two (writesAs_setfr _ a) (writesAs_setfr _ b) hf (by simpa) (by simpa)]
    simp [State.readDr, State.readFr_writeFr, joinWords]
  · rw [(readsAs_getxd n).result_after_two (writesAs_setxf _ a) (writesAs_setxf _ b) hf (by simpa) (by simpa)]
    simp [State.readXd, State.readXf_writeXf, joinWords]
  · simp [dr (readsAs_getfr _), State.readFr_writeDr, zext64, hiWord]
  · simp [dr (readsAs_getfr _), State.readFr_writeDr, zext64, loWord]
  · simp [xd (readsAs_getxf _), State.readXf_writeXd, zext64, hiWord]
  · simp [xd (readsAs_getxf _), State.readXf_writeXd, zext64, loWord]
  · simp [dr (readsAs_getfr m), (readsAs_getfr m).result hf, State.readFr_writeDr, he, ho]
  · simp [xd (readsAs_getxf m), (readsAs_getxf m).result hf, State.readXf_writeXd, he, ho]
  · simp [dr (readsAs_getxf m), (readsAs_getxf m).result hf]
  · simp [xd (readsAs_getfr m), (readsAs_getfr m).result hf]

/-! ### The views as functions of their storage (R160) -/

/-- Two states have the same floating-point storage, read through the same bank bit. -/
structure SameFp (s s' : State) : Prop where
  fb0 : s.fb0 = s'.fb0
  fb1 : s.fb1 = s'.fb1
  fpBank : s.fpBank = s'.fpBank

section SameFp

variable {s s' : State}

theorem SameFp.readFr (h : SameFp s s') (n : Fin 16) : s.readFr n = s'.readFr n := by
  rw [State.readFr_eq_physical, State.readFr_eq_physical, h.fb0, h.fb1, h.fpBank]

theorem SameFp.readXf (h : SameFp s s') (n : Fin 16) : s.readXf n = s'.readXf n := by
  rw [State.readXf_eq_physical, State.readXf_eq_physical, h.fb0, h.fb1, h.fpBank]

theorem SameFp.readDr (h : SameFp s s') (n : Fin 8) : s.readDr n = s'.readDr n := by
  simp only [State.readDr, h.readFr]

theorem SameFp.readXd (h : SameFp s s') (n : Fin 8) : s.readXd n = s'.readXd n := by
  simp only [State.readXd, h.readXf]

theorem SameFp.setFb (h : SameFp s s') (b : Bool) (n : Fin 16) (v : Word) :
    SameFp (s.setFb b n v) (s'.setFb b n v) := by
  obtain ⟨h0, h1, hb⟩ := h
  cases b with
  | false => exact ⟨congrArg (·.set n.val v) h0, h1, hb⟩
  | true => exact ⟨h0, congrArg (·.set n.val v) h1, hb⟩

theorem SameFp.writeFr (h : SameFp s s') (n : Fin 16) (v : Word) : SameFp (s.writeFr n v) (s'.writeFr n v) := by
  rw [State.writeFr, State.writeFr, h.fpBank]
  exact h.setFb _ n v

theorem SameFp.writeXf (h : SameFp s s') (n : Fin 16) (v : Word) : SameFp (s.writeXf n v) (s'.writeXf n v) := by
  rw [State.writeXf, State.writeXf, h.fpBank]
  exact h.setFb _ n v

/-- The two states answer the operation alike, with status OK, and hold the same storage after it. -/
def SameFpAnswer (i : Instr) (s s' : State) : Prop :=
  ∃ t t', exec i s = .next t ∧ exec i s' = .next t' ∧ t.response = t'.response ∧ t.fb0 = t'.fb0 ∧ t.fb1 = t'.fb1 ∧
    t.response.map (·.status) = some .ok

variable (hf : s.fatal = false) (hf' : s'.fatal = false)

include hf hf'

theorem ReadsAs.sameFpAnswer {i : Instr} {f : State → DWord} (hi : ReadsAs i f) (h : SameFp s s') (hff : f s = f s') :
    SameFpAnswer i s s' :=
  ⟨_, _, hi.answers hf, hi.answers hf', by rw [hff], h.fb0, h.fb1, rfl⟩

theorem WritesAs.sameFpAnswer {i : Instr} {op : State → State} (hi : WritesAs i op) (h : SameFp (op s) (op s')) :
    SameFpAnswer i s s' :=
  ⟨_, _, hi.answers hf, hi.answers hf', rfl, h.fb0, h.fb1, rfl⟩

end SameFp

/-- Settles O29: four reads and two hooks that are functions of the storage, four writes of it. -/
theorem fpViewsDependOnTheirStorageAlone : Obligations.FpViewsDependOnTheirStorageAlone := by
  intro s s' hf hf' h0 h1 hb h32 h64 n k v w
  have h : SameFp s s' := ⟨h0, h1, hb⟩
  simp only [List.forall_mem_cons]
  exact ⟨(readsAs_getfr n).sameFpAnswer hf hf' h (congrArg zext64 (h.readFr n)),
    (writesAs_setfr n v).sameFpAnswer hf hf' (h.writeFr n v),
    (readsAs_getxf n).sameFpAnswer hf hf' h (congrArg zext64 (h.readXf n)),
    (writesAs_setxf n v).sameFpAnswer hf hf' (h.writeXf n v),
    (readsAs_getdr k).sameFpAnswer hf hf' h (h.readDr k),
    (writesAs_setdr k w).sameFpAnswer hf hf' ((h.writeFr _ _).writeFr _ _),
    (readsAs_getxd k).sameFpAnswer hf hf' h (h.readXd k),
    (writesAs_setxd k w).sameFpAnswer hf hf' ((h.writeXf _ _).writeXf _ _),
    (readsAs_fixnan v).sameFpAnswer hf hf' h (by rw [h32]),
    (readsAs_fixnan64 w).sameFpAnswer hf hf' h (by rw [h64]), nofun⟩

/-! ### The NaN hooks (R169, R170) -/

/-- Settles O30: the hooks are read from the parameters, and the default passes every pattern through. -/
theorem fixnanIsTheConfiguredFunction : Obligations.FixnanIsTheConfiguredFunction := by
  refine fun s hf => ⟨selects_fixnan, selects_fixnan64, fun v => (readsAs_fixnan v).answers hf,
    fun v => (readsAs_fixnan64 v).answers hf, fun h32 v => ?_, fun h64 v => ?_⟩
  · simpa [h32] using (readsAs_fixnan v).answers hf
  · simpa [h64] using (readsAs_fixnan64 v).answers hf

/-- Settles O60: the hook is the table of the function. -/
theorem everyTotalFunctionIsANanHook : Obligations.EveryTotalFunctionIsANanHook := by
  refine ⟨fun f => ?_, fun f => ?_, rfl, rfl⟩
  · obtain ⟨rows, hrows⟩ := exists_table_eq f
    refine ⟨.table rows, fun s hf hs v => ?_⟩
    simpa [hs, hrows] using (readsAs_fixnan v).answers hf
  · obtain ⟨rows, hrows⟩ := exists_table_eq f
    refine ⟨.table rows, fun s hf hs v => ?_⟩
    simpa [hs, hrows] using (readsAs_fixnan64 v).answers hf

/-! ### Raw registers and the debug port (R125, R143, R149, R152, R153) -/

/-- The scalar registers of a block of debug identifiers, in the order of R97. -/
theorem readScalar_scalarLo (s : State) (id : Fin 8) :
    s.readScalar (scalarLo id) = #v[s.sr, s.ssr, s.spc, s.sgr, s.dbr, s.vbr, s.pr, s.fpul][id.val] := by
  fin_cases id <;> rfl

theorem readScalar_scalarHi (s : State) (id : Fin 4) :
    s.readScalar (scalarHi id) =
      #v[s.pc, s.fpscr, s.mac.extractLsb' 32 32, s.mac.extractLsb' 0 32][id.val] := by
  fin_cases id <;> rfl

theorem readShadow_eq (s : State) (id : Fin 2) : s.readShadow id = #v[s.oldSr, s.oldFpscr][id.val] := by
  fin_cases id <;> rfl

theorem writeScalar_scalarLo (s : State) (id : Fin 8) (v : Word) :
    s.writeScalar (scalarLo id) v =
      #v[{ s with sr := v &&& s.params.srWmask }, { s with ssr := v }, { s with spc := v }, { s with sgr := v },
         { s with dbr := v }, { s with vbr := v }, { s with pr := v }, { s with fpul := v }][id.val] := by
  fin_cases id <;> rfl

theorem writeScalar_scalarHi (s : State) (id : Fin 4) (v : Word) :
    s.writeScalar (scalarHi id) v =
      #v[{ s with pc := v }, { s with fpscr := v &&& s.params.fpscrWmask },
         { s with mac := v ++ s.mac.extractLsb' 0 32 }, { s with mac := s.mac.extractLsb' 32 32 ++ v }][id.val] := by
  fin_cases id <;> rfl

/-- A value through a write mask has no bit outside it (R32, R43). -/
theorem and_not_eq_zero_of_and_eq {v m : Word} (h : v &&& m = v) : v &&& ~~~m = 0 := by
  rw [← h, BitVec.and_assoc, BitVec.and_not_self]
  exact BitVec.and_zero

/-- Settles O16: the rule of GET.x at the two status registers, the latch, and the constants of reset. -/
theorem getStatusReturnsTheRawRegister : Obligations.GetStatusReturnsTheRawRegister := by
  refine ⟨fun s hf => ⟨readsWord_getInstr hf .sr, readsWord_getInstr hf .fpscr,
    readsWord_of_exec (f := (·.expevt)) hf selects_getExpevt rfl, fun h => ?_⟩, fun a b c => ?_,
    (readsAs_getInstr .sr).answers rfl, (readsAs_getInstr .fpscr).answers rfl⟩
  · exact ⟨and_not_eq_zero_of_and_eq h.sr, and_not_eq_zero_of_and_eq h.fpscr⟩
  · exact decode_eq_none_of_wf_eq_false (by simp [Request.wf, formatOf, Format.allows])

/-- Settles O21: one read per block of identifiers. -/
theorem peekReadsTheNamedWord : Obligations.PeekReadsTheNamedWord := by
  refine fun s hf => ⟨fun n => ?_, fun n => ?_, fun id => ?_, fun id => ?_, fun id => ?_, ?_, fun n => ?_, fun n => ?_⟩
  · exact readsWord_of_exec (f := (·.readR n)) hf (DebugBlock.r.selects_peek n) rfl
  · exact readsWord_of_exec (f := (·.readRBank n)) hf (DebugBlock.rBank.selects_peek n) rfl
  · rw [← readScalar_scalarLo]
    exact readsWord_of_exec (f := (·.readScalar (scalarLo id))) hf (DebugBlock.scalarLo.selects_peek id) rfl
  · rw [← readScalar_scalarHi]
    exact readsWord_of_exec (f := (·.readScalar (scalarHi id))) hf (DebugBlock.scalarHi.selects_peek id) rfl
  · rw [← readShadow_eq]
    exact readsWord_of_exec (f := (·.readShadow id)) hf (selects_dbgPeekShadow id) rfl
  · exact readsWord_of_exec (f := (·.expevt)) hf selects_dbgPeekExpevt rfl
  · exact readsWord_of_exec (f := (·.readFr n)) hf (DebugBlock.fr.selects_peek n) rfl
  · exact readsWord_of_exec (f := (·.readXf n)) hf (DebugBlock.xf.selects_peek n) rfl

/-- Settles O22: one write per block of identifiers. -/
theorem pokeWritesTheNamedWord : Obligations.PokeWritesTheNamedWord := by
  refine fun s hf => ⟨fun n => ?_, fun n => ?_, fun id => ?_, fun id => ?_, fun n => ?_, fun n => ?_⟩
  · exact writesWord_of_exec (op := (·.writeR n)) hf (DebugBlock.r.selects_poke n) fun _ => rfl
  · exact writesWord_of_exec (op := (·.writeRBank n)) hf (DebugBlock.rBank.selects_poke n) fun _ => rfl
  · simp only [← writeScalar_scalarLo]
    exact writesWord_of_exec (op := (·.writeScalar (scalarLo id))) hf (DebugBlock.scalarLo.selects_poke id)
      fun _ => rfl
  · simp only [← writeScalar_scalarHi]
    exact writesWord_of_exec (op := (·.writeScalar (scalarHi id))) hf (DebugBlock.scalarHi.selects_poke id)
      fun _ => rfl
  · exact writesWord_of_exec (op := (·.writeFr n)) hf (DebugBlock.fr.selects_poke n) fun _ => rfl
  · exact writesWord_of_exec (op := (·.writeXf n)) hf (DebugBlock.xf.selects_poke n) fun _ => rfl

/-! The accessors of the registers a block of scalar identifiers names. -/

theorem getInstr_scalarLo (id : Fin 8) :
    (scalarLo id).getInstr = #v[.getSr, .getSsr, .getSpc, .getSgr, .getDbr, .getVbr, .getPr, .getFpul][id.val] := by
  fin_cases id <;> rfl

theorem getInstr_scalarHi (id : Fin 4) :
    (scalarHi id).getInstr = #v[.getPc, .getFpscr, .getMach, .getMacl][id.val] := by
  fin_cases id <;> rfl

theorem setInstr_scalarLo (id : Fin 8) (v : Word) :
    (scalarLo id).setInstr v =
      #v[.setSr v, .setSsr v, .setSpc v, .setSgr v, .setDbr v, .setVbr v, .setPr v, .setFpul v][id.val] := by
  fin_cases id <;> rfl

theorem setInstr_scalarHi (id : Fin 4) (v : Word) :
    (scalarHi id).setInstr v = #v[.setPc v, .setFpscr v, .setMach v, .setMacl v][id.val] := by
  fin_cases id <;> rfl

/-- Settles O23: port and accessor read and write the same word; a scalar identifier names its GET.x and SET.x. -/
theorem debugPortIsTheAccessors : Obligations.DebugPortIsTheAccessors := by
  refine fun s v => ⟨fun _ => ⟨rfl, rfl⟩, fun _ => ⟨rfl, rfl⟩, fun id => ⟨?_, ?_⟩, fun id => ⟨?_, ?_⟩, rfl,
    fun _ => ⟨rfl, rfl⟩, fun _ => ⟨rfl, rfl⟩⟩
  · rw [← getInstr_scalarLo, exec_getInstr]
    rfl
  · rw [← setInstr_scalarLo, exec_setInstr]
    rfl
  · rw [← getInstr_scalarHi, exec_getInstr]
    rfl
  · rw [← setInstr_scalarHi, exec_setInstr]
    rfl

end Sys2Proof.Machine

/-! ## The updaters and the host control (R181 to R186) -/

namespace Sys2Proof.Machine

open Sys2Proof.Safety

theorem writesAs_updfpscr : WritesAs .updfpscr State.updateFpscr := fun _ => rfl

theorem writesAs_setfsr : WritesAs .setfsr State.driveHostFpu := fun _ => rfl

/-- What UPDSR answers (R181). -/
def State.bankChange (s : State) : DWord := if bankOf s.params s.sr = bankOf s.params s.oldSr then 0 else 1

theorem State.bankChange_eq_ite_bankChanged (s : State) : s.bankChange = if s.bankChanged then 1 else 0 := by
  simp [State.bankChange, State.bankChanged]

theorem answers_updsr {s : State} (hf : s.fatal = false) : Answers (exec .updsr s) s.updateSr s.bankChange := by
  rw [State.bankChange_eq_ite_bankChanged, exec]
  exact complete_running hf _

theorem State.bankChange_eq_zero_iff (s : State) :
    s.bankChange = 0 ↔ bankOf s.params s.sr = bankOf s.params s.oldSr := by
  simp [State.bankChange]

theorem State.bankChange_eq_one_iff (s : State) :
    s.bankChange = 1 ↔ bankOf s.params s.sr ≠ bankOf s.params s.oldSr := by
  simp [State.bankChange]

/-- The state an answer leaves is determined. -/
theorem eq_of_answers {r : Result} {t u : State} {q : DWord} (h : Answers r t q) (hu : r = .next u) : u = t.okQ q :=
  Host.Outcome.next.inj (hu.symm.trans h)

/-- Settles O31: the derived state field by field. -/
theorem updsrRecomputesTheDerivedState : Obligations.UpdsrRecomputesTheDerivedState :=
  fun _ hf => ⟨selects_updsr, answers_updsr hf, rfl⟩

/-- Settles O33: the derived state field by field. -/
theorem updfpscrRecomputesTheDerivedState : Obligations.UpdfpscrRecomputesTheDerivedState :=
  fun _ hf => ⟨selects_updfpscr, writesAs_updfpscr.answers hf⟩

/-! ### Reads over unchanged storage, the bank bit changed or not -/

section FpBankSwitch

variable {s t : State}

theorem State.readFr_eq_readXf_of_switch (hb : t.fpBank = !s.fpBank) (hfb : ∀ b, t.fb b = s.fb b) (n : Fin 16) :
    t.readFr n = s.readXf n := by
  rw [State.readFr, State.readXf, hfb, hb]

theorem State.readXf_eq_readFr_of_switch (hb : t.fpBank = !s.fpBank) (hfb : ∀ b, t.fb b = s.fb b) (n : Fin 16) :
    t.readXf n = s.readFr n :=
  (State.readFr_eq_readXf_of_switch (by simp [hb]) (fun b => (hfb b).symm) n).symm

theorem State.readR_eq_of_bank_eq (hb : t.gprBank = s.gprBank) (hgb : ∀ b, t.gb b = s.gb b) (hr : t.rh = s.rh)
    (m : Fin 16) : t.readR m = s.readR m := by
  simp only [State.readR, hgb, hb, hr]

theorem State.readRBank_eq_of_bank_eq (hb : t.gprBank = s.gprBank) (hgb : ∀ b, t.gb b = s.gb b) (n : Fin 8) :
    t.readRBank n = s.readRBank n := by
  rw [State.readRBank, State.readRBank, hgb, hb]

end FpBankSwitch

/-- Settles O32: UPDSR reports 1 exactly when it switches the bank over unchanged storage. -/
theorem updsrSwapsTheBanksWithoutDataLoss : Obligations.UpdsrSwapsTheBanksWithoutDataLoss := by
  intro s t hf hs h
  obtain rfl := eq_of_answers (answers_updsr hf) h
  have hf' : (s.updateSr.okQ s.bankChange).fatal = false := hf
  have hgb : ∀ b, (s.updateSr.okQ s.bankChange).gb b = s.gb b := fun _ => rfl
  simp only [resultOf_of_answers (answers_updsr hf), Option.some.injEq, State.bankChange_eq_zero_iff,
    State.bankChange_eq_one_iff, (readsAs_getr _).result hf, (readsAs_getr _).result hf', (readsAs_getrb _).result hf,
    (readsAs_getrb _).result hf']
  refine ⟨em _, rfl, rfl, rfl, fun hne n m hm => ?_, fun heq n m => ?_,
    fun m hm => congrArg zext64 (State.readR_high_eq_of_rh_eq hm rfl)⟩
  · have hb : (s.updateSr.okQ s.bankChange).gprBank = !s.gprBank := by
      rw [hs.gprBank]
      exact Bool.eq_not.2 hne
    rw [State.readR_eq_readRBank_of_switch hb hgb hm, State.readRBank_eq_readR_of_switch hb hgb hm]
    exact ⟨rfl, rfl⟩
  · have hb : (s.updateSr.okQ s.bankChange).gprBank = s.gprBank := heq.trans hs.gprBank.symm
    rw [State.readR_eq_of_bank_eq hb hgb rfl, State.readRBank_eq_of_bank_eq hb hgb]
    exact ⟨rfl, rfl⟩

/-- Settles O34: fr and xf change places over unchanged storage, and dr and xd are built of them. -/
theorem updfpscrExchangesTheViews : Obligations.UpdfpscrExchangesTheViews := by
  intro s t hf h
  obtain rfl := writesAs_updfpscr.left_eq hf h
  have hf' : s.updateFpscr.ok.fatal = false := hf
  have hfb : ∀ b, s.updateFpscr.ok.fb b = s.fb b := fun _ => rfl
  simp only [(readsAs_getfr _).result hf, (readsAs_getfr _).result hf', (readsAs_getxf _).result hf,
    (readsAs_getxf _).result hf', (readsAs_getdr _).result hf, (readsAs_getdr _).result hf',
    (readsAs_getxd _).result hf, (readsAs_getxd _).result hf']
  refine ⟨rfl, rfl, fun hne => ?_, fun heq n => ?_⟩
  · have hb : s.updateFpscr.ok.fpBank = !s.fpBank := Bool.eq_not.2 hne
    have hfr := State.readFr_eq_readXf_of_switch hb hfb
    have hxf := State.readXf_eq_readFr_of_switch hb hfb
    simp only [State.readDr, State.readXd, hfr, hxf, and_self, implies_true]
  · have hb : s.updateFpscr.ok.fpBank = s.fpBank := heq
    have h : SameFp s.updateFpscr.ok s := ⟨rfl, rfl, hb⟩
    rw [h.readFr, h.readXf]
    exact ⟨rfl, rfl⟩

/-- Settles O35: an updater leaves the shadow equal to the register, so a second one writes what stands there. -/
theorem updatersAreIdempotent : Obligations.UpdatersAreIdempotent := by
  refine fun s hf => ⟨?_, _, answers_updsr hf, ?_⟩
  · rw [runAll_cons (writesAs_updfpscr.answers hf), runAll_singleton, writesAs_updfpscr.answers hf,
      writesAs_updfpscr.answers (s := s.updateFpscr.okQ 0) hf]
    rfl
  · have hq : (s.updateSr.okQ s.bankChange).bankChange = 0 := (State.bankChange_eq_zero_iff _).2 rfl
    rw [runAll_cons (answers_updsr hf), runAll_singleton, ← hq]
    exact answers_updsr hf

/-- Settles O36: SET.SR and SET.FPSCR write no bank bit and no storage. -/
theorem rawWritesLeaveTheViewsStale : Obligations.RawWritesLeaveTheViewsStale := by
  intro s v hf
  have afterSr {j : Instr} {f : State → DWord} (hj : ReadsAs j f) :
      resultOf (runAll [.setSr v, j] s) = some (f (s.writeScalar .sr v).ok) :=
    hj.result_after (writesAs_setInstr .sr v) hf hf
  have afterFpscr {j : Instr} {f : State → DWord} (hj : ReadsAs j f) :
      resultOf (runAll [.setFpscr v, j] s) = some (f (s.writeScalar .fpscr v).ok) :=
    hj.result_after (writesAs_setInstr .fpscr v) hf hf
  refine ⟨fun n => ?_, fun n => ?_, afterSr (readsAs_getInstr .sr), fun n => ?_, fun n => ?_,
    afterFpscr (readsAs_getInstr .fpscr)⟩
  · rw [afterSr (readsAs_getr n), (readsAs_getr n).result hf]
    rfl
  · rw [afterSr (readsAs_getrb n), (readsAs_getrb n).result hf]
    rfl
  · rw [afterFpscr (readsAs_getfr n), (readsAs_getfr n).result hf]
    rfl
  · rw [afterFpscr (readsAs_getxf n), (readsAs_getxf n).result hf]
    rfl

theorem State.driveHostFpu_of_hostFpuCtl {s : State} (hp : s.params.hostFpuCtl = true) :
    s.driveHostFpu = { s with hostFpctl := some (hostFpctlOf s.params s.fpscr) } :=
  if_pos hp

/-- The stub form (R186). -/
theorem State.driveHostFpu_of_stub {s : State} (hp : s.params.hostFpuCtl = false) : s.driveHostFpu = s :=
  if_neg (by simp [hp])

/-- Settles O37: the two forms of the block. -/
theorem setfsrDrivesTheHostControl : Obligations.SetfsrDrivesTheHostControl := by
  intro s hf
  have h := writesAs_setfsr.answers hf
  refine ⟨selects_setfsr, fun hp => ?_, fun hp => ?_⟩
  · rw [State.driveHostFpu_of_hostFpuCtl hp] at h
    exact h
  · rwa [State.driveHostFpu_of_stub hp] at h

end Sys2Proof.Machine

/-! ## The exception controller, the pseudo-operations and reset (R106, R195 to R205, R222, R225, R251) -/

namespace Sys2Proof.Machine

open Sys2Proof.Safety

/-! ### The checks of DOEXC, and its three branches (R196 to R198) -/

theorem State.refusesDelivery_eq_true_iff (s : State) (evt : Word) :
    s.refusesDelivery evt = true ↔ evt ∈ s.params.mmuRequired ∧ s.fullMMU = false := by
  simp [State.refusesDelivery, isMmuRequired]

theorem State.refusesDelivery_eq_false_iff (s : State) (evt : Word) :
    s.refusesDelivery evt = false ↔ evt ∉ s.params.mmuRequired ∨ s.fullMMU = true := by
  rw [← Bool.not_eq_true, s.refusesDelivery_eq_true_iff, Classical.not_and_iff_not_or_not, Bool.not_eq_false]

theorem State.isNested_eq_true_iff (s : State) (evt : Word) :
    s.isNested evt = true ↔ s.excState = .exceptionPending ∨
      (s.params.nestedCheckBl = true ∧ s.sr.getLsbD s.params.srBl.val = true ∧ evt ∉ s.params.resetEvents) := by
  simp [State.isNested, isResetEvent, bit, and_assoc]

theorem State.isNested_eq_false {s : State} {evt : Word} (he : s.excState = .normal)
    (h : s.params.nestedCheckBl = false ∨ s.sr.getLsbD s.params.srBl.val = false ∨ evt ∈ s.params.resetEvents) :
    s.isNested evt = false := by
  rw [← Bool.not_eq_true, s.isNested_eq_true_iff, he]
  rintro (h' | ⟨hc, hb, hr⟩)
  · cases h'
  · obtain h | h | h := h
    · exact Bool.false_ne_true (h.symm.trans hc)
    · exact Bool.false_ne_true (h.symm.trans hb)
    · exact hr h

section Doexc

variable {s t : State} {pc evt vec : Word} (hf : s.fatal = false)

include hf

theorem exec_doexc_refused (hr : s.refusesDelivery evt = true) : exec (.doexc pc evt vec) s = .next (s.answer .failed) := by
  rw [exec_doexc_eq_ite hf, if_pos hr]

theorem exec_doexc_nested (hr : s.refusesDelivery evt = false) (hn : s.isNested evt = true) :
    exec (.doexc pc evt vec) s = .next (s.stop .nested) := by
  rw [exec_doexc_eq_ite hf, if_neg (by simp [hr]), if_pos hn]

theorem answers_doexc (hr : s.refusesDelivery evt = false) (hn : s.isNested evt = false) :
    Answers (exec (.doexc pc evt vec) s) (s.takeException pc evt vec) 0 := by
  rw [exec_doexc_eq_ite hf, if_neg (by simp [hr]), if_neg (by simp [hn])]
  rfl

/-- A DOEXC that answers OK has delivered. -/
theorem eq_takeException_of_ok (h : exec (.doexc pc evt vec) s = .next t) (hok : t.response = some .okEmpty) :
    t = (s.takeException pc evt vec).ok := by
  cases hr : s.refusesDelivery evt with
  | true =>
    obtain rfl := Host.Outcome.next.inj ((exec_doexc_refused hf hr).symm.trans h)
    cases hok
  | false =>
    cases hn : s.isNested evt with
    | true =>
      obtain rfl := Host.Outcome.next.inj ((exec_doexc_nested hf hr hn).symm.trans h)
      cases hok
    | false => exact eq_of_answers (answers_doexc hf hr hn) h

end Doexc

/-- Settles O38: the first branch. -/
theorem doexcWithoutMmuFailsAtomically : Obligations.DoexcWithoutMmuFailsAtomically :=
  fun s _ evt _ hf hevt hm => exec_doexc_refused hf ((s.refusesDelivery_eq_true_iff evt).2 ⟨hevt, hm⟩)

/-- Settles O39: the second branch. -/
theorem doexcNestedIsFatal : Obligations.DoexcNestedIsFatal :=
  fun s _ evt _ hf hr hn =>
    exec_doexc_nested hf ((s.refusesDelivery_eq_false_iff evt).2 hr) ((s.isNested_eq_true_iff evt).2 hn)

/-- The state a delivery leaves, in the terms of R196. -/
theorem State.takeException_eq {s : State} (he : s.excState = .normal) (pc evt vec : Word) :
    s.takeException pc evt vec =
      { s with
        ssr := s.sr
        spc := pc
        sgr := if s.params.excSavesSgr = true then s.rh[7] else s.sgr
        expevt := evt
        sr := entrySr s.params s.sr
        gprBank := bankOf s.params (entrySr s.params s.sr)
        srMode := srDecode s.params (entrySr s.params s.sr)
        oldSr := entrySr s.params s.sr
        pc := if evt ∈ s.params.resetEvents then s.params.resetVector else s.vbr + vec } := by
  rw [← s.handler_eq_ite evt vec, he]
  rfl

/-- Settles O40: the third branch. -/
theorem doexcDelivers : Obligations.DoexcDelivers := by
  refine fun s pc evt vec hf hr he hn => ⟨selects_doexc, ?_⟩
  have h := answers_doexc (pc := pc) (vec := vec) hf ((s.refusesDelivery_eq_false_iff evt).2 hr)
    (State.isNested_eq_false he hn)
  rw [State.takeException_eq he] at h
  exact h

/-! ### The entry bits with the default parameters (R222) -/

/-- The default entry bits are inside the default write mask. -/
theorem entrySr_default {v : Word} (h : maskSr Params.default v = v) :
    entrySr Params.default v = v ||| Params.default.excSrSet := by
  have hset : Params.default.excSrSet &&& Params.default.srWmask = Params.default.excSrSet := by decide
  rw [maskSr] at h
  rw [entrySr, maskSr, BitVec.and_comm, BitVec.and_or_distrib_left, BitVec.and_comm _ v, h, BitVec.and_comm, hset]

/-- Entry sets BL, RB and MD and keeps every other bit. -/
theorem getLsbD_entrySr_default {v : Word} (h : maskSr Params.default v = v) (k : Fin 32) :
    (entrySr Params.default v).getLsbD k.val = (v.getLsbD k.val || (k == 28 || k == 29 || k == 30)) := by
  have hbits : Params.default.excSrSet.getLsbD k.val = (k == 28 || k == 29 || k == 30) := by
    revert k
    decide
  rw [entrySr_default h, BitVec.getLsbD_or, hbits]

/-- Settles O41: entry sets RB, so bank 1 is switched to; the storage is unchanged. -/
theorem entrySwitchesToTheHandlersBank : Obligations.EntrySwitchesToTheHandlersBank := by
  intro s t pc evt vec hp hc hf h hok
  have ht := eq_takeException_of_ok hf h hok
  have hf' : t.fatal = false := ht ▸ hf
  have hsr : t.sr = entrySr Params.default s.sr := by rw [ht, ← hp]; rfl
  have hmode : t.srMode = srDecode Params.default t.sr := by rw [ht, ← hp]; rfl
  have hbank : t.gprBank = bankOf Params.default t.sr := by rw [ht, ← hp]; rfl
  have hgb : ∀ b, t.gb b = s.gb b := fun _ => ht ▸ rfl
  have hrh : t.rh = s.rh := ht ▸ rfl
  have hbit := hsr ▸ getLsbD_entrySr_default (hp ▸ hc.sr)
  have hbl : t.sr.getLsbD 28 = true := by simpa using hbit 28
  have hrb : t.sr.getLsbD 29 = true := by simpa using hbit 29
  have hmd : t.sr.getLsbD 30 = true := by simpa using hbit 30
  refine ⟨hbank.trans hrb, hmode ▸ hmd, hmode ▸ hbl, fun k h28 h29 h30 => ?_, hbl, hrb, hmd, fun hb n m hm => ?_,
    fun m hm => ?_⟩
  · rw [hbit k]
    simp [h28, h29, h30]
  · have hswitch : t.gprBank = !s.gprBank := by
      rw [hb]
      exact hbank.trans hrb
    rw [(readsAs_getrb n).result hf', (readsAs_getr m).result hf, State.readRBank_eq_readR_of_switch hswitch hgb hm]
  · rw [(readsAs_getr m).result hf', (readsAs_getr m).result hf, State.readR_high_eq_of_rh_eq hm hrh]

/-! ### RAISEFPUDIS, ADJSLOT and the FPU-disable sequences (R199 to R203) -/

section Running

variable {s : State} (hf : s.fatal = false)

include hf

theorem exec_raisefpudis_thrown (hm : s.fullMMU = true) :
    exec .raisefpudis s = .next (s.answer (.thrownTriple (s.pc - s.params.ilen) 0x800 0x100)) := by
  rw [exec_raisefpudis_eq_ite hf, if_pos hm]

theorem exec_raisefpudis_stop (hm : s.fullMMU = false) : exec .raisefpudis s = .next (s.stop .mmuConfig) := by
  rw [exec_raisefpudis_eq_ite hf, if_neg (by simp [hm])]

theorem exec_adjslot_running (epc evt vec : Word) :
    exec (.adjslot epc evt vec) s =
      .next (s.answer (.okTriple (epc - s.params.ilen) (slotRemap evt) vec)) := by
  rw [exec]
  exact complete_running hf _

end Running

/-- Settles O42: the two branches. -/
theorem raisefpudisThrowsTheTriple : Obligations.RaisefpudisThrowsTheTriple := by
  refine ⟨selects_raisefpudis, fun s hf => ⟨exec_raisefpudis_thrown hf, fun hm hi => ?_, exec_raisefpudis_stop hf⟩⟩
  rw [exec_raisefpudis_thrown hf hm, hi]
  rfl

/-- Settles O43: ADJSLOT reads nothing but its operands and P_ILEN. -/
theorem adjslotAnswersTheAdjustedTriple : Obligations.AdjslotAnswersTheAdjustedTriple :=
  ⟨selects_adjslot, fun _ epc evt vec hf => exec_adjslot_running hf epc evt vec⟩

/-- The triple a requester reads is the triple that was answered (R98). -/
@[simp] theorem triple_okTriple (epc evt vec : Word) : (Response.okTriple epc evt vec).triple = ⟨epc, evt, vec⟩ := by
  simp [Response.okTriple, Response.triple]

theorem onThrown_answer_thrownTriple (s : State) (epc evt vec : Word) (k : ThrownException → State → Result) :
    onThrown (.next (s.answer (.thrownTriple epc evt vec))) k =
      k ⟨epc, evt, vec⟩ (s.answer (.thrownTriple epc evt vec)) := by
  simp [onThrown, andThen, Response.thrownTriple, Response.triple]

/-- A running block open to exceptions: MMU support, no delivery pending, BL clear. -/
structure OpenToExceptions (s : State) : Prop where
  fatal : s.fatal = false
  fullMMU : s.fullMMU = true
  excState : s.excState = .normal
  bl : s.sr.getLsbD s.params.srBl.val = false

theorem OpenToExceptions.answer {s : State} (h : OpenToExceptions s) (r : Response) : OpenToExceptions (s.answer r) :=
  ⟨h.fatal, h.fullMMU, h.excState, h.bl⟩

/-- DELIVER of any event is neither refused nor nested in an open block. -/
theorem OpenToExceptions.deliver {s : State} (h : OpenToExceptions s) (ex : ThrownException) :
    deliver ex s = .next (s.takeException ex.epc ex.evt ex.vec).ok :=
  answers_doexc h.fatal ((s.refusesDelivery_eq_false_iff _).2 (.inr h.fullMMU))
    (State.isNested_eq_false h.excState (.inr (.inl h.bl)))

/-- Outside a delay slot: RAISEFPUDIS, then DOEXC with its triple. -/
theorem OpenToExceptions.fpudis {s : State} (h : OpenToExceptions s) :
    fpudis s = .next ((s.answer (.thrownTriple (s.pc - s.params.ilen) 0x800 0x100)).takeException
      (s.pc - s.params.ilen) 0x800 0x100).ok := by
  rw [Machine.fpudis, exec_raisefpudis_thrown h.fatal h.fullMMU, onThrown_answer_thrownTriple]
  exact (h.answer _).deliver _

/-- Inside a delay slot: ADJSLOT once between the two. -/
theorem OpenToExceptions.fpudisSlot {s : State} (h : OpenToExceptions s) :
    fpudisSlot s = .next ((s.answer (.okTriple (s.pc - s.params.ilen - s.params.ilen) 0x820 0x100)).takeException
      (s.pc - s.params.ilen - s.params.ilen) 0x820 0x100).ok := by
  rw [Machine.fpudisSlot, exec_raisefpudis_thrown h.fatal h.fullMMU, onThrown_answer_thrownTriple,
    exec_adjslot_running (h.answer _).fatal]
  simp only [andThen, State.answer_response, triple_okTriple]
  exact ((h.answer _).answer _).deliver _

theorem State.handler_eq_add_of_default {s : State} (hp : s.params = Params.default) {evt : Word}
    (hevt : evt ∉ Params.default.resetEvents) (vec : Word) : s.handler evt vec = s.vbr + vec := by
  rw [s.handler_eq_ite, hp, if_neg hevt]

/-- Settles O45: the two sequences in an open block, whose events are not of the reset class. -/
theorem fpuDisableProtocol : Obligations.FpuDisableProtocol := by
  intro s i hp hf hm he hbl hpc
  have hopen : OpenToExceptions s := ⟨hf, hm, he, hp ▸ hbl⟩
  have hepc : s.pc - s.params.ilen = i := by
    rw [hpc, hp]
    exact BitVec.add_sub_cancel i 2
  have hilen : s.params.ilen = 2 := congrArg Params.ilen hp
  refine ⟨⟨_, hopen.fpudis, hepc, rfl, ?_, rfl, hf⟩, ⟨_, hopen.fpudisSlot, ?_, rfl, ?_, rfl, hf⟩⟩
  · exact State.handler_eq_add_of_default hp (by decide) _
  · rw [hepc, hilen]
    rfl
  · exact State.handler_eq_add_of_default hp (by decide) _

/-! ### The sequences of R106 -/

theorem andThen_of_answers {r : Result} {t : State} {q : DWord} (h : Answers r t q) (k : State → Result) :
    andThen r k = k (t.okQ q) := by
  rw [show r = _ from h]
  rfl

theorem lastWord_okQ_zext64 (s : State) (v : Word) : (s.okQ (zext64 v)).lastWord = v := loWord_zext64 v

/-! An earlier answer is no part of what a later write leaves. -/

theorem State.okQ_okQ (s : State) (q q' : DWord) : (s.okQ q).okQ q' = s.okQ q' := rfl

theorem State.writeScalar_okQ (s : State) (q : DWord) (x : ScalarReg) (v : Word) :
    (s.okQ q).writeScalar x v = (s.writeScalar x v).okQ q := by
  cases x <;> rfl

theorem State.updateSr_okQ (s : State) (q : DWord) : (s.okQ q).updateSr = s.updateSr.okQ q := rfl

theorem State.updateFpscr_okQ (s : State) (q : DWord) : (s.okQ q).updateFpscr = s.updateFpscr.okQ q := rfl

theorem State.driveHostFpu_okQ (s : State) (q : DWord) : (s.okQ q).driveHostFpu = s.driveHostFpu.okQ q := by
  rw [State.driveHostFpu, State.driveHostFpu, apply_ite (State.okQ · q)]
  rfl

theorem readsAs_getSsr : ReadsAs .getSsr fun s => zext64 s.ssr := fun _ => rfl

theorem readsAs_getSpc : ReadsAs .getSpc fun s => zext64 s.spc := fun _ => rfl

theorem readsAs_getFpscr : ReadsAs .getFpscr fun s => zext64 s.fpscr := fun _ => rfl

theorem writesAs_setSr (v : Word) : WritesAs (.setSr v) fun s => s.writeScalar .sr v := fun _ => rfl

theorem writesAs_setPc (v : Word) : WritesAs (.setPc v) fun s => s.writeScalar .pc v := fun _ => rfl

theorem writesAs_setFpscr (v : Word) : WritesAs (.setFpscr v) fun s => s.writeScalar .fpscr v := fun _ => rfl

section Running

variable {s : State} (hf : s.fatal = false)

include hf

/-- LDSR: the masked write, then the update. -/
theorem answers_ldsr (v : Word) :
    Answers (ldsr v s) (s.writeScalar .sr v).updateSr (s.writeScalar .sr v).bankChange := by
  rw [ldsr, andThen_of_answers ((writesAs_setSr v).answers hf)]
  exact answers_updsr (s := (s.writeScalar .sr v).okQ 0) hf

/-- LDFPSCR: the masked write, the update, then the host control. -/
theorem answers_ldfpscr (v : Word) :
    Answers (ldfpscr v s) (s.writeScalar .fpscr v).updateFpscr.driveHostFpu 0 := by
  rw [ldfpscr, andThen_of_answers ((writesAs_setFpscr v).answers hf),
    andThen_of_answers (writesAs_updfpscr.answers (s := (s.writeScalar .fpscr v).okQ 0) hf), State.updateFpscr_okQ,
    State.okQ_okQ]
  have h := writesAs_setfsr.answers (s := (s.writeScalar .fpscr v).updateFpscr.okQ 0) hf
  rwa [State.driveHostFpu_okQ] at h

/-- FRCHG and FSCHG: the raw register with the bits toggled, written back and updated. -/
theorem answers_toggleFpscr (m : Word) :
    Answers (toggleFpscr m s) (s.writeScalar .fpscr (s.fpscr ^^^ m)).updateFpscr 0 := by
  rw [toggleFpscr, andThen_of_answers (readsAs_getFpscr.answers hf), lastWord_okQ_zext64,
    andThen_of_answers ((writesAs_setFpscr _).answers (s := s.okQ (zext64 s.fpscr)) hf), State.writeScalar_okQ,
    State.okQ_okQ]
  exact writesAs_updfpscr.answers (s := (s.writeScalar .fpscr _).okQ 0) hf

/-- RTE: SSR and SPC are read before SR is written (R225). -/
theorem answers_rte : Answers (rte s) s.returnFromException 0 := by
  rw [rte, andThen_of_answers (readsAs_getSsr.answers hf),
    andThen_of_answers (readsAs_getSpc.answers (s := s.okQ (zext64 s.ssr)) hf), lastWord_okQ_zext64,
    lastWord_okQ_zext64, State.okQ_okQ, andThen_of_answers (answers_ldsr (s := s.okQ _) hf _), State.writeScalar_okQ,
    State.updateSr_okQ, State.okQ_okQ]
  exact (writesAs_setPc s.spc).answers (s := (s.writeScalar .sr s.ssr).updateSr.okQ _) hf

end Running

/-- Settles O46: RTE leaves what the return from an exception is said to leave. -/
theorem rteReturnsFromTheHandler : Obligations.RteReturnsFromTheHandler := fun _ hf => answers_rte hf

/-- From a state that owes no update the return restores what the delivery has replaced (R222, R225). -/
theorem State.returnFromException_takeException {s : State} (hd : Derived s) (hsr : maskSr s.params s.sr = s.sr)
    (hold : s.oldSr = s.sr) (pc evt vec : Word) :
    (s.takeException pc evt vec).returnFromException =
      { s with pc := pc, ssr := s.sr, spc := pc, sgr := (s.takeException pc evt vec).sgr, expevt := evt } := by
  have hbank : s.gprBank = bankOf s.params s.sr := hold ▸ hd.gprBank
  have hmode : s.srMode = srDecode s.params s.sr := hold ▸ hd.srMode
  simp only [State.returnFromException, State.takeException, State.updateSr, hsr, hbank, hmode, hold, hd.excState]

/-- Settles O47: the return after the delivery. -/
theorem returnUndoesDelivery : Obligations.ReturnUndoesDelivery := by
  intro s t pc evt vec hd hc hold hf h hok
  obtain rfl := eq_takeException_of_ok hf h hok
  have hret := State.returnFromException_takeException hd hc.sr hold pc evt vec
  refine ⟨_, answers_rte hf, ?_⟩
  show (s.takeException pc evt vec).returnFromException.okQ 0 = _
  rw [hret]
  rfl

/-- Settles O48: each sequence is a masked write and an updater; SETFSR writes the latch alone. -/
theorem loadAndTogglePseudoOperations : Obligations.LoadAndTogglePseudoOperations := by
  refine fun s v hf => ⟨⟨_, answers_ldsr hf v, rfl, rfl, rfl, rfl⟩, ⟨_, answers_ldfpscr hf v, ?_⟩,
    ⟨_, answers_toggleFpscr hf _, rfl, rfl, rfl, rfl, rfl, rfl⟩, ⟨_, answers_toggleFpscr hf _, rfl, rfl, rfl, rfl⟩⟩
  cases hp : s.params.hostFpuCtl <;> simp [State.writeScalar, maskFpscr, hp]

/-! ### Reset (R251) -/

theorem step_reset {s : State} {m : Bool} {rest : List Input} (h : s.inputs = .reset m :: rest) :
    step s = .next ((s.dropInput rest).applyReset m) := by
  simp [step, h, takeInput]

/-- Settles O54: what a reset writes. -/
theorem resetInputGivesTheStatedValues : Obligations.ResetInputGivesTheStatedValues := by
  intro s m rest hin
  refine ⟨_, step_reset hin, rfl, rfl, rfl, rfl, rfl, rfl, rfl, rfl, rfl, rfl, rfl, fun hp => ?_, rfl, rfl, rfl, rfl, rfl,
    rfl, rfl⟩
  exact if_pos hp

/-- Settles O55: the constants of reset, computed. -/
theorem resetStateHasTheStatedValues : Obligations.ResetStateHasTheStatedValues :=
  ⟨rfl, rfl, rfl, rfl, rfl, rfl, rfl, rfl, rfl, rfl, rfl, rfl, rfl, rfl, rfl⟩

/-- Settles O56: reset writes registers, shadows and derived state together, and its constants pass the masks. -/
theorem invariantsHoldAtReset : Obligations.InvariantsHoldAtReset :=
  ⟨⟨rfl, rfl, rfl, rfl, rfl⟩, ⟨rfl, rfl⟩, ⟨rfl, rfl, rfl, rfl⟩, outputs_afterReset _ _ _⟩

end Sys2Proof.Machine
